-- ==== Sys2Proof/Word.lean ====
section
/-! DEFINITION. The words the manual moves about: bytes, beats of 16 bytes, and the numbers that name keys,
sources and revisions (00_scope.md, Terms and abbreviations). -/

namespace Sys2Proof

/-- One byte, the smallest unit of every format (12_record_formats.md, 12.1). -/
abbrev Byte := BitVec 8

/-- One beat: 16 bytes, byte k of the beat in bits 8k+7 to 8k, so that the lowest address is least significant. -/
abbrev Beat := BitVec 128

/-- The 16 write strobes of a beat, strobe k for byte k (R114). -/
abbrev Strobes := BitVec 16

/-- The 8-bit identifier of the master that issued a request (00_scope.md, Terms). -/
abbrev SourceId := BitVec 8

/-- A key ID, 32 bits; 0 names no key (R1). -/
abbrev KeyId := BitVec 32

/-- A revision of a key, 16 bits (R1). -/
abbrev Revision := BitVec 16

/-- A 16-bit set of streams: bit s is set when stream s is in the set (12.1). -/
abbrev StreamSet := BitVec 16

/-- A content key, 128 bits (R1). -/
abbrev KeyValue := BitVec 128

/-- The protection, cache and quality attributes of a request, which play no part in the part's behaviour (R114).
Their widths are those of AXI4: PRESUMED (log 38). -/
structure Attributes where
  protection : BitVec 3
  cache      : BitVec 4
  quality    : BitVec 4
  deriving DecidableEq, Repr, Inhabited

end Sys2Proof
end

