-- ==== Sys2Proof/Config.lean ====
section
/-! DEFINITION. What is fixed for every UZT-1640: the sizes the manual gives its tables, its time constants,
and, without a body, the functions and orders the manual does not give (free values). -/

namespace Sys2Proof.Config

/-- Key slots (R1). -/
def keySlots : Nat := 128
/-- Streams, and so leases, stream entries and sets of frame records (R49, R77, R158). -/
def streams : Nat := 16
/-- Frame records of each stream (R77). -/
def frameRecords : Nat := 64
/-- Decrypt lanes (5.3). -/
def lanes : Nat := 4
/-- Read trackers (R122). -/
def trackers : Nat := 48
/-- The greatest sum of reserved trackers (R122, R165). -/
def reservedLimit : Nat := 44
/-- Requests the response lists together hold (R119). -/
def listPlaces : Nat := 96
/-- Places of the revocation list (R145). -/
def revocationPlaces : Nat := 32
/-- Entries of the intake queue (R132). -/
def queuePlaces : Nat := 8
/-- Records the report writer stages (R181). -/
def stagingPlaces : Nat := 64
/-- Slots of the report ring (R182). -/
def ringSlots : Nat := 512
/-- Key IDs in a lease's list (R49). -/
def leaseKeys : Nat := 8
/-- Server-side grants after which the waiting internal requester is granted (R126). -/
def internalTurn : Nat := 16
/-- Values of the address space, 36-bit byte addresses (R114). -/
def addressSpace : Nat := 2 ^ 36

/-- Units of 1/65536 s in one second, the resolution of the reading (R29). -/
def second : Nat := 65536
/-- 1/8 s, the size of a slew step (R36, R37). -/
def eighth : Nat := 8192
/-- 8 s of reference time, the period of forward steps (R36). -/
def forwardPeriod : Nat := 8 * 65536
/-- 63.875 s of reference time, at which a hold begins (R37). -/
def holdStart : Nat := 64 * 65536 - 8192
/-- 64 s of reference time, at which a backward step completes (R37). -/
def backwardPeriod : Nat := 64 * 65536
/-- The full backward budget of 6 s, in steps of 1/8 s (R39). -/
def fullBudget : Nat := 48
/-- Seconds in one screening day (R44). -/
def daySeconds : Nat := 86400
/-- The reading at which the clock stays: 2^40 - 1 seconds, fraction 65535 (R30). -/
def lastReading : Nat := 2 ^ 56 - 1

/-- The family code, the upper 16 bits of every device ID (R190). -/
def familyCode : BitVec 16 := 0x1640
/-- The silicon revision of the silicon the manual describes (12.6). -/
def siliconRevision : BitVec 16 := 1

/-- The device root key (R11, R137), whose value and width the manual does not state: a free value. -/
opaque deviceRootKey : List Byte

/-- The key-wrapping key derived from the device root key, an entry's key ID and its revision (R11).
The derivation is outside the manual: a free function. -/
opaque wrappingKey : List Byte → KeyId → Revision → List Byte

/-- The unwrapping of a 16-byte wrapped key under a key-wrapping key, a fixed function of the part (R11)
that the manual does not give: a free function. -/
opaque unwrap : List Byte → BitVec 128 → KeyValue

/-- The part's message authentication function of a root key and the first L - 16 bytes of a parcel (R137):
a free function. -/
opaque messageAuthentication : List Byte → List Byte → BitVec 128

/-- The part's 128-bit content block cipher of a key value and a counter block (R101): a free function. -/
opaque blockCipher : KeyValue → Beat → Beat

/-- Whether the key table takes the n-th announcement before the lease unit. The manual orders neither before
the other (R31), so the order is a free value, drawn afresh at each announcement. -/
opaque keyTableFirst : Nat → Bool

/-- Whether the clock had made its checks before an assertion of TAMPER_N tripped the part, for a TIME parcel that is the
third SUSPECT entry of its day. R180 lets either claim be taken first: a free value, drawn afresh at each such parcel
(log 32). -/
opaque clockChecksFirst : Nat → Bool

/-- The attributes of the part's own requests, of which the manual says nothing (R114, R127): a free value for each
tag (log 39). -/
opaque ownAttributes : Nat → Attributes

end Sys2Proof.Config
end

