-- ==== Sys2Proof/Syntax.lean ====
section
/-! DEFINITION. The commands of the block: one constructor of Instr for each row of spec/opcode_table.json, with
the operands its outside world supplies (the server's masters, the DRAM controller, the passing of reference
time, the pins and the supplies). The table gives its rows no operand fields; log entry 1 says how these were
chosen. -/

namespace Sys2Proof

/-- The two responses of either port (R114, R115). -/
inductive Response where
  | okay
  | slverr
  deriving DecidableEq, Repr

/-- One data beat of a write burst with its 16 strobes (R114). -/
structure WriteBeat where
  data    : Beat
  strobes : Strobes
  deriving DecidableEq, Repr

/-- One beat with which memory answers a read (R115). -/
structure ReadBeat where
  data     : Beat
  response : Response
  deriving DecidableEq, Repr

/-- A read burst as the server port receives it: source, start address, length in beats, attributes (R114). -/
structure ReadRequest where
  source     : SourceId
  address    : BitVec 36
  length     : Nat
  attributes : Attributes
  deriving DecidableEq, Repr

/-- A write burst received whole: its length is the number of its beats (R114). -/
structure WriteRequest where
  source     : SourceId
  address    : BitVec 36
  beats      : List WriteBeat
  attributes : Attributes
  deriving DecidableEq, Repr

/-- The level of TAMPER_N, asserted low (R173). -/
inductive TamperLevel where
  | asserted
  | deasserted
  deriving DecidableEq, Repr

/-- What RESET_N does in one WARM_RESET: it is asserted, it is released with the strap value sampled at the end
of the reset (R116), or both in one act. -/
inductive ResetLine where
  | assert
  | release (intakeSel : BitVec 2)
  | pulse (intakeSel : BitVec 2)
  deriving DecidableEq, Repr

/-- The commands, in the table's order. A command that carries a tag is an answer of memory to the request
issued under that tag (R115). -/
inductive Instr where
  /-- READ_ACCEPT: the server port has received this read burst (R117). -/
  | readAccept (request : ReadRequest)
  /-- WRITE_ACCEPT: the server port has received this write burst whole (R118). -/
  | writeAccept (request : WriteRequest)
  /-- MEMORY_PORT_GRANT: the DRAM controller can take a request (R126). -/
  | memoryPortGrant
  /-- PASS_THROUGH_READ_DATA: memory answers the next beats of a pass-through read (R120). -/
  | passThroughReadData (tag : Nat) (beats : List ReadBeat)
  /-- DECISION: the last beat of a cipher-path read returns, and with it all its beats (R53). -/
  | decision (tag : Nat) (beats : List ReadBeat)
  /-- WRITE_ANSWER: memory answers a server write burst (R118). -/
  | writeAnswer (tag : Nat) (response : Response)
  /-- RESPONSE_RETURN: the server port carries up to this many beats of a source's oldest response (R106). -/
  | responseReturn (source : SourceId) (beats : Nat)
  /-- LANE_GRANT (R104). -/
  | laneGrant
  /-- LANE_COMPLETE: this lane finishes its burst (R102). -/
  | laneComplete (lane : Nat)
  /-- VERIFIER_READ_ANSWER: memory answers a verifier read (R135). -/
  | verifierReadAnswer (tag : Nat) (beats : List ReadBeat)
  /-- TAG_CHECK_COMPLETE (R137). -/
  | tagCheckComplete
  /-- GRANT: the key table takes the dispatched GRANT (R7). -/
  | grant
  /-- REVOKE: the key table takes the dispatched REVOKE (R149). -/
  | revoke
  /-- PLAN: the plan unit takes the dispatched PLAN (R161). -/
  | plan
  /-- TIME: the screening clock takes the dispatched TIME parcel, with what meets it at the trip monitor (R33,
  R180). -/
  | time
  /-- TRIP_TEST: the trip monitor takes the dispatched TRIP_TEST parcel (R175). -/
  | tripTest
  /-- ANNOUNCEMENT: reference time passes up to the reading's next whole second (R31). -/
  | announcement
  /-- SLEW_FORWARD_STEP: reference time passes up to a step timer of 8 s (R36). -/
  | slewForwardStep
  /-- HOLD_BEGIN: reference time passes up to a step timer of 63.875 s (R37). -/
  | holdBegin
  /-- BACKWARD_STEP: reference time passes up to a step timer of 64 s (R37). -/
  | backwardStep
  /-- TAMPER_ASSERT: TAMPER_N goes to asserted (R174). -/
  | tamperAssert
  /-- TAMPER_DEASSERT: TAMPER_N goes to deasserted (R174). -/
  | tamperDeassert
  /-- WARM_RESET (R128). -/
  | warmReset (line : ResetLine)
  /-- COLD_POWER_UP: VMAIN returns, with the levels of TAMPER_N and INTAKE_SEL as they stand (R172). -/
  | coldPowerUp (tamper : TamperLevel) (intakeSel : BitVec 2)
  /-- VMAIN_LOSS (R171). -/
  | vmainLoss
  /-- IDENTITY_WRITE (R188). -/
  | identityWrite
  /-- STATUS_WRITE (R186). -/
  | statusWrite
  /-- RECORD_WRITE (R182). -/
  | recordWrite
  /-- RECORD_WRITE_ANSWER (R183). -/
  | recordWriteAnswer (tag : Nat) (response : Response)
  /-- CONTROL_WRITE_ANSWER (R186). -/
  | controlWriteAnswer (tag : Nat) (response : Response)
  /-- STANDBY_LOSS (R171). -/
  | standbyLoss
  deriving DecidableEq, Repr

end Sys2Proof
end

