-- ==== Sys2Proof/WellFormed.lean ====
section
/-! DEFINITION. Which terms of Instr are commands of the block: a burst has 1 to 16 beats on either port
(00_scope.md, Pins; R114, R115). exec refuses every other term by name. -/

namespace Sys2Proof

/-- A number of beats that a burst of either port may have (R114). -/
def burstLength (n : Nat) : Bool := decide (1 ≤ n ∧ n ≤ 16)

/-- The check on a term of Instr: every burst, and every part of a response, has 1 to 16 beats, and a lane is one
of the four. -/
def Instr.wellFormed : Instr → Bool
  | .readAccept r => burstLength r.length
  | .writeAccept r => burstLength r.beats.length
  | .memoryPortGrant => true
  | .passThroughReadData _ beats => burstLength beats.length
  | .decision _ beats => burstLength beats.length
  | .writeAnswer _ _ => true
  | .responseReturn _ n => burstLength n
  | .laneGrant => true
  | .laneComplete lane => decide (lane < Config.lanes)
  | .verifierReadAnswer _ beats => burstLength beats.length
  | .tagCheckComplete => true
  | .grant => true
  | .revoke => true
  | .plan => true
  | .time => true
  | .tripTest => true
  | .announcement => true
  | .slewForwardStep => true
  | .holdBegin => true
  | .backwardStep => true
  | .tamperAssert => true
  | .tamperDeassert => true
  | .warmReset _ => true
  | .coldPowerUp _ _ => true
  | .vmainLoss => true
  | .identityWrite => true
  | .statusWrite => true
  | .recordWrite => true
  | .recordWriteAnswer _ _ => true
  | .controlWriteAnswer _ _ => true
  | .standbyLoss => true

end Sys2Proof
end

