-- ==== Sys2Proof/Decode.lean ====
section
/-! DEFINITION. The block has no decoder of a processor's kind. spec/opcode_table.json gives no row any bits, so no
word spells a command; decodeTableWord says so. -/

namespace Sys2Proof

/-- The command a word of the table's bits spells: none, since no row of the table has bits. -/
def decodeTableWord (_nbits _w : Nat) : Option Instr := none

end Sys2Proof
end

