-- ==== Sys2Proof/Machine/State.lean ====
section
/-! DEFINITION. The state of the part, block by block as 00_scope.md lists the blocks, as plain data; the reasons a
step can stop; and the machine right after reset. A field the manual gives only in some states of its record
stands in the constructors of those states. -/

namespace Sys2Proof.Machine

/-- No rule of the spec stops the part with a fault, so there is no fault: errors are responses, refused
parcels, BROKEN slots and trips, all of them next states. -/
inductive Fault where
  deriving DecidableEq, Repr

/-- Why exec gives a command no next state. -/
inductive Refusal where
  /-- Raised by exec for a row that has no meaning yet. Safe. -/
  | notModelled (mnemonic : String)
  /-- Raised by exec for a term that Instr.wellFormed refuses: no burst of the ports (R114, R115). Safe. -/
  | illFormed
  deriving DecidableEq, Repr

/-! ## Fuses, supplies -/

/-- What is fused into the part: the low 48 bits of the device ID, whose upper 16 are the family code (R190). -/
structure Fuses where
  deviceId : BitVec 48
  deriving DecidableEq, Repr

/-- The main domain: up, held in reset by RESET_N, or without VMAIN (R171, R177). -/
inductive MainPower where
  | up
  | inReset
  | off
  deriving DecidableEq, Repr

/-- The supplies as the part feels them: the main domain, and the standby domain's validity mark (R171). -/
structure Power where
  main       : MainPower
  markIntact : Bool
  deriving DecidableEq, Repr

/-! ## The standby domain -/

/-- R32. -/
inductive ClockState where
  | unset
  | running
  | suspect
  deriving DecidableEq, Repr

/-- The screening clock's record (R29). The reading, the remainder and the step timer are in units of 1/65536 s,
the budget in steps of 1/8 s. -/
structure Clock where
  reading      : Nat
  state        : ClockState
  remainder    : Int
  timer        : Nat
  hold         : Bool
  budget       : Nat
  day          : Nat
  dayOffset    : Nat
  suspectCount : Nat
  deriving DecidableEq, Repr

/-- R145. -/
inductive Condition where
  | listed
  | pending
  deriving DecidableEq, Repr

/-- One entry of the revocation list (R145). -/
structure Revocation where
  keyId       : KeyId
  revision    : Revision
  retainUntil : Nat
  condition   : Condition
  deriving DecidableEq, Repr

/-- The causes that reach the trip monitor (R174). -/
inductive TripCause where
  | tamper
  | tripTest
  | standbyLost
  | suspectRepeat
  deriving DecidableEq, Repr

/-- The latch, with the recorded cause while it is TRIPPED (R173). -/
inductive Latch where
  | normal
  | tripped (cause : TripCause)
  deriving DecidableEq, Repr

/-- The trip monitor's record (R173). -/
structure Trip where
  latch  : Latch
  tamper : TamperLevel
  deriving DecidableEq, Repr

/-! ## The key table -/

/-- The states of a slot other than EMPTY (R2). -/
inductive KeyState where
  | waiting
  | opened
  | closed
  | withdrawn
  deriving DecidableEq, Repr

/-- An allowance that is present (R1). -/
structure Allowance where
  base    : Nat
  current : Nat
  deriving DecidableEq, Repr

/-- The record of a slot that is not EMPTY (R1). Times are whole seconds, grace and max run minutes. -/
structure Key where
  state       : KeyState
  keyId       : KeyId
  revision    : Revision
  feature     : BitVec 32
  auditoriums : StreamSet
  notBefore   : Nat
  notAfter    : Nat
  grace       : Nat
  maxRun      : Nat
  allowance   : Option Allowance
  daily       : Bool
  value       : KeyValue
  noticeGiven : Bool
  deriving DecidableEq, Repr

/-- The key table: 128 slots, none for EMPTY, and the generation (R1, R4). -/
structure KeyTable where
  slots      : List (Option Key)
  generation : BitVec 16
  deriving DecidableEq, Repr

/-! ## The lease unit -/

/-- A stream's mode (R158), copied into a lease at its opening (R56). -/
inductive Mode where
  | show
  | check
  deriving DecidableEq, Repr

/-- The refusal and join causes of a lease (12.7). -/
inductive LeaseCause where
  | noKey
  | keyWaiting
  | keyClosed
  | keyWithdrawn
  | auditorium
  | feature
  | allowance
  | clock
  | window
  | listFull
  | gracePassed
  deriving DecidableEq, Repr

/-- The end causes of a lease (R74). -/
inductive EndCause where
  | superseded
  | expired
  | revoked
  | tripped
  | retired
  deriving DecidableEq, Repr

/-- The state a resume returns a HELD lease to (R49). -/
inductive SavedState where
  | running
  | overrun
  deriving DecidableEq, Repr

/-- The states in which a lease serves a show, HELD with its saved state and held-since (R49, R50). -/
inductive Serving where
  | running
  | overrun
  | held (saved : SavedState) (since : Nat)
  deriving DecidableEq, Repr

/-- What a RUNNING, OVERRUN or HELD lease records of its show (R49). -/
structure Show where
  tag          : BitVec 16
  feature      : BitVec 32
  mode         : Mode
  start        : Nat
  hardEnd      : Nat
  keys         : List KeyId
  plainCount   : Nat
  darkCount    : Nat
  firstRefusal : Option LeaseCause
  deriving DecidableEq, Repr

/-- Why an opening failed (R49). -/
structure LeaseRefusal where
  cause      : LeaseCause
  wanting    : KeyId
  generation : BitVec 16
  deriving DecidableEq, Repr

/-- A lease record (R49): IDLE, REFUSED, or serving a show. -/
inductive Lease where
  | idle
  | refused (tag : BitVec 16) (refusal : LeaseRefusal)
  | serving (state : Serving) (show_ : Show)
  deriving DecidableEq, Repr

/-! ## The frame monitor -/

/-- The parsed header of a frame (R82). -/
structure Header where
  clear         : Bool
  tag           : BitVec 16
  keyId         : KeyId
  feature       : BitVec 32
  frameIndex    : BitVec 32
  payloadLength : Nat
  deriving DecidableEq, Repr

/-- Why a slot broke (R77). -/
inductive BrokenCause where
  | badHeader
  | foreignWrite
  | outOfOrder
  | partialBeat
  | rewrite
  | memoryError
  | span
  deriving DecidableEq, Repr

/-- The state of a frame record with the fields present in it (R77). HEADER carries the header capture (R81). -/
inductive FrameState where
  | vacant
  | header (writer : SourceId) (fill : Nat) (capture : List Beat)
  | filling (writer : SourceId) (fill : Nat) (header : Header)
  | ready (writer : SourceId) (header : Header)
  | broken (cause : BrokenCause) (writer : Option SourceId) (header : Option Header)
  deriving DecidableEq, Repr

/-- A frame record (R77). -/
structure Frame where
  state      : FrameState
  generation : BitVec 8
  deriving DecidableEq, Repr

/-! ## The cipher engine -/

/-- One PLAIN beat of a burst in a lane: its place in the burst, its payload beat number, its ciphertext (R100). -/
structure LaneBeat where
  place      : Nat
  number     : BitVec 32
  ciphertext : Beat
  deriving DecidableEq, Repr

/-- The burst a BUSY lane holds, with its inputs (R101). -/
structure LaneJob where
  tag        : Nat
  stream     : Nat
  key        : KeyValue
  frameIndex : BitVec 32
  beats      : List LaneBeat
  deriving DecidableEq, Repr

/-- The four lanes, none for FREE, and the arbiter's last granted stream (R101, R104). -/
structure Engine where
  lanes       : List (Option LaneJob)
  lastGranted : Nat
  deriving DecidableEq, Repr

/-! ## The path unit -/

/-- A request as the server port receives it (R114). -/
inductive Request where
  | read (request : ReadRequest)
  | write (request : WriteRequest)
  deriving DecidableEq, Repr

/-- A head waiting at the server port, dated by when it began waiting (R119). -/
structure Head where
  request : Request
  since   : Nat
  deriving DecidableEq, Repr

/-- R99, R123. -/
inductive TrackerState where
  | awaitingMemory
  | decided
  | inLane
  | returning
  deriving DecidableEq, Repr

/-- The inputs a tracker keeps until a lane takes them (R100). -/
structure LaneInputs where
  key        : KeyValue
  frameIndex : BitVec 32
  deriving DecidableEq, Repr

/-- A tracker (R123), and from a decision for plaintext on the lane's inputs (R100). Its beats are the
entry's response beats. -/
structure Tracker where
  source           : SourceId
  stream           : Nat
  slot             : Nat
  firstOffset      : Nat
  count            : Nat
  slotGeneration   : BitVec 8
  streamGeneration : BitVec 8
  state            : TrackerState
  inputs           : Option LaneInputs
  deriving DecidableEq, Repr

/-- What the path unit keeps of a ring write for its memory answer (R79). -/
structure Kept where
  stream     : Nat
  slot       : Nat
  generation : BitVec 8
  deriving DecidableEq, Repr

/-- What the path unit keeps of a write burst: its data, and what its watchers asked to keep (R118). -/
structure WriteInfo where
  beats    : List WriteBeat
  kept     : Option Kept
  cells    : List Nat
  consumer : Option (BitVec 16)
  deriving DecidableEq, Repr

/-- The class of an accepted request (R117, R118). -/
inductive EntryKind where
  | span
  | passThrough
  | cipher (tracker : Tracker)
  | write (info : WriteInfo)
  deriving DecidableEq, Repr

/-- R120. RETURNING is a COMPOSED request that is the oldest of its source. -/
inductive EntryState where
  | issueWait
  | atMemory
  | composed
  deriving DecidableEq, Repr

/-- One response beat. plain marks a beat decided PLAIN in SHOW mode: ciphertext until its lane has completed,
plaintext after (R99). -/
structure OutBeat where
  data     : Beat
  response : Response
  plain    : Bool
  deriving DecidableEq, Repr

/-- A request in the response lists (R119, R120). -/
structure Entry where
  tag        : Nat
  source     : SourceId
  address    : BitVec 36
  length     : Nat
  attributes : Attributes
  kind       : EntryKind
  state      : EntryState
  response   : List OutBeat
  returned   : Nat
  deriving DecidableEq, Repr

/-- A request as the memory port carries it (R114, R115): of a read the length, of a write the beats. -/
structure PortRequest where
  tag        : Nat
  write      : Bool
  address    : Nat
  length     : Nat
  beats      : List WriteBeat
  attributes : Attributes
  deriving DecidableEq, Repr

/-- A response as the server port carries it (R106, R120). -/
structure PortResponse where
  source : SourceId
  tag    : Nat
  beats  : List (Beat × Response)
  last   : Bool
  deriving DecidableEq, Repr

/-- The path unit: the response lists in acceptance order, the heads that wait and the requests behind them
(R119), and the model's own tag, date and port fields. -/
structure Path where
  entries  : List Entry
  heads    : List Head
  behind   : List Request
  nextTag  : Nat
  epoch    : Nat
  issued   : Option PortRequest
  returned : Option PortResponse
  deriving DecidableEq, Repr

/-- The requests of the internal requester (R127). -/
inductive InternalKind where
  | verifierRead (cell : Nat) (first : Nat) (count : Nat)
  | identityWrite
  | statusWrite
  | recordWrite
  deriving DecidableEq, Repr

/-- One request of the internal requester. -/
structure InternalRequest where
  tag  : Nat
  kind : InternalKind
  deriving DecidableEq, Repr

/-- The internal requester and the memory-port arbiter's count (R126, R127). -/
structure Internal where
  waiting  : List InternalRequest
  grants   : Nat
  atMemory : List InternalRequest
  deriving DecidableEq, Repr

/-! ## The intake unit -/

/-- What is captured of a parcel's beat 0 at its commit (R130). -/
structure Captured where
  number : BitVec 32
  kind   : Byte
  length : BitVec 16
  deriving DecidableEq, Repr

/-- A pending commit (R130): its cell, its burst, and whether memory has answered the burst OKAY. -/
structure PendingCommit where
  cell   : Nat
  tag    : Nat
  source : SourceId
  fields : Captured
  okay   : Bool
  deriving DecidableEq, Repr

/-- An entry of the intake queue (R132). -/
structure QueueEntry where
  cell   : Nat
  fields : Captured
  deriving DecidableEq, Repr

/-- The verifier (R134), with the beats of its buffer that hold parcel data; the buffer is zero beyond them. -/
inductive Verifier where
  | idle
  | reading (cell : Nat) (fields : Captured) (buffer : List Beat)
  | checking (cell : Nat) (buffer : List Beat)
  | withOwner (cell : Nat) (buffer : List Beat)
  | draining
  deriving DecidableEq, Repr

/-- The intake unit (7.1 to 7.3). -/
structure Intake where
  commits  : List PendingCommit
  queue    : List QueueEntry
  verifier : Verifier
  deriving DecidableEq, Repr

/-! ## The plan unit -/

/-- R159. -/
inductive Arbitration where
  | rotating
  | fixed
  deriving DecidableEq, Repr

/-- A stream entry (R158). -/
structure Stream where
  enabled    : Bool
  source     : SourceId
  mode       : Mode
  sizeCode   : Nat
  slotCount  : Nat
  base       : Nat
  reserved   : Nat
  generation : BitVec 8
  deriving DecidableEq, Repr

/-- The plan unit (R158, R159). -/
structure Plan where
  revision    : BitVec 32
  fill        : Beat
  arbitration : Arbitration
  streams     : List Stream
  deriving DecidableEq, Repr

/-! ## The report writer -/

/-- The report kinds (12.7). -/
inductive RecordKind where
  | parcelTaken
  | parcelRefused
  | keyOpened
  | keyClosed
  | keyFreed
  | keyWithdrawn
  | keyRevoked
  | leaseOpened
  | leaseRefused
  | leaseOverrun
  | leaseHeld
  | leaseResumed
  | leaseEnded
  | frameBroken
  | clockState
  | clockStep
  | dayBegan
  | tripped
  | tripCleared
  | resetDone
  deriving DecidableEq, Repr

/-- A report record as a block hands it over: every field but the flags (R181, 12.4). -/
structure Record where
  kind    : RecordKind
  cause   : Byte
  stream  : Byte
  subject : BitVec 32
  seconds : BitVec 40
  data0   : BitVec 32
  data1   : BitVec 32
  data2   : BitVec 32
  index   : BitVec 16
  deriving DecidableEq, Repr

/-- The report writer's state (R181). -/
structure Report where
  staging         : List Record
  producer        : Nat
  consumer        : Nat
  lost            : Bool
  statusPending   : Bool
  identityPending : Bool
  deriving DecidableEq, Repr

/-! ## The whole part -/

/-- Everything the manual gives the part, the queue of commands, and the model's own draws counter. -/
structure State where
  fuses       : Fuses
  power       : Power
  intakeSel   : BitVec 2
  clock       : Clock
  revocations : List Revocation
  trip        : Trip
  keys        : KeyTable
  leases      : List Lease
  frames      : List (List Frame)
  engine      : Engine
  path        : Path
  internal    : Internal
  intake      : Intake
  plan        : Plan
  report      : Report
  draws       : Nat
  pending     : List Instr
  deriving DecidableEq, Repr

/-! ## Values after reset -/

/-- The clock's record after standby loss (R29). -/
def Clock.initial : Clock :=
  { reading := 0, state := .unset, remainder := 0, timer := 0, hold := false, budget := Config.fullBudget,
    day := 0, dayOffset := 0, suspectCount := 0 }

/-- R6. -/
def KeyTable.initial : KeyTable := { slots := List.replicate Config.keySlots none, generation := 0 }

/-- R52. -/
def initialLeases : List Lease := List.replicate Config.streams .idle

/-- R94. -/
def initialFrames : List (List Frame) :=
  List.replicate Config.streams (List.replicate Config.frameRecords { state := .vacant, generation := 0 })

/-- R105, R110. -/
def Engine.initial : Engine := { lanes := List.replicate Config.lanes none, lastGranted := 15 }

/-- R128: lists empty, no head waiting. The tag goes on counting, so that no answer of memory to a request
from before a reset carries the tag of a later one. -/
def Path.initial (nextTag : Nat) : Path :=
  { entries := [], heads := [], behind := [], nextTag := nextTag, epoch := 0, issued := none, returned := none }

/-- R128. -/
def Internal.initial : Internal := { waiting := [], grants := 0, atMemory := [] }

/-- R132, R143. -/
def Intake.initial : Intake := { commits := [], queue := [], verifier := .idle }

/-- R159. -/
def Stream.initial : Stream :=
  { enabled := false, source := 0, mode := .show, sizeCode := 0, slotCount := 4, base := 0, reserved := 0,
    generation := 0 }

/-- R159. -/
def Plan.initial : Plan :=
  { revision := 0, fill := 0, arbitration := .rotating, streams := List.replicate Config.streams Stream.initial }

/-- R188, but for the records its staging holds. -/
def Report.initial (staging : List Record) : Report :=
  { staging := staging, producer := 0, consumer := 0, lost := false, statusPending := false,
    identityPending := true }

/-- The RESET_DONE record of the first power-up, COLD_STANDBY_LOST with the clock UNSET (R188). -/
def firstResetDone : Record :=
  { kind := .resetDone, cause := 0, stream := 0xFF, subject := 0, seconds := 0, data0 := 0x03, data1 := 0,
    data2 := 0, index := 0xFFFF }

/-- The TRIPPED record of the first power-up, occasion FIRST, cause STANDBY_LOST (R172, R176, R177). -/
def firstTripped : Record :=
  { kind := .tripped, cause := 0x03, stream := 0xFF, subject := 0, seconds := 0, data0 := 0x01, data1 := 0x03,
    data2 := 0, index := 0xFFFF }

/-- The part right after a cold power-up after standby loss, the one reset whose whole outcome the manual states
(R29, R172, R6, R52, R94, R110, R128, R143, R159, R188). The device ID, the strap and the level of TAMPER_N are
DESIGN CHOICES (log 5, log 6). -/
def State.reset : State :=
  { fuses := { deviceId := 0 }
    power := { main := .up, markIntact := true }
    intakeSel := 0
    clock := Clock.initial
    revocations := []
    trip := { latch := .tripped .standbyLost, tamper := .deasserted }
    keys := KeyTable.initial
    leases := initialLeases
    frames := initialFrames
    engine := Engine.initial
    path := Path.initial 0
    internal := Internal.initial
    intake := Intake.initial
    plan := Plan.initial
    report := Report.initial [firstResetDone, firstTripped]
    draws := 0
    pending := [] }

end Sys2Proof.Machine
end

