-- ==== Sys2Proof/Machine/Ops.lean ====
section
/-! DEFINITION. The named operations over the state that every family uses: one update for each block, reads and
writes of single records, bytes and fields of beats, the reading now, handing a record to the report writer
(R181), status events (R186), and handing requests to the internal requester (R127, R187). -/

namespace Sys2Proof.Machine

/-! ## One update for each block of the state -/

def State.setPower (s : State) (v : Power) : State := { s with power := v }
def State.setIntakeSel (s : State) (v : BitVec 2) : State := { s with intakeSel := v }
def State.setClock (s : State) (v : Clock) : State := { s with clock := v }
def State.setRevocations (s : State) (v : List Revocation) : State := { s with revocations := v }
def State.setTrip (s : State) (v : Trip) : State := { s with trip := v }
def State.setKeys (s : State) (v : KeyTable) : State := { s with keys := v }
def State.setLeases (s : State) (v : List Lease) : State := { s with leases := v }
def State.setFrames (s : State) (v : List (List Frame)) : State := { s with frames := v }
def State.setEngine (s : State) (v : Engine) : State := { s with engine := v }
def State.setPath (s : State) (v : Path) : State := { s with path := v }
def State.setInternal (s : State) (v : Internal) : State := { s with internal := v }
def State.setIntake (s : State) (v : Intake) : State := { s with intake := v }
def State.setPlan (s : State) (v : Plan) : State := { s with plan := v }
def State.setReport (s : State) (v : Report) : State := { s with report := v }
def State.setDraws (s : State) (v : Nat) : State := { s with draws := v }
def State.setPending (s : State) (v : List Instr) : State := { s with pending := v }

/-! ## Single records of the tables -/

/-- The record of key slot i, none when it is EMPTY (R1). -/
def State.key (s : State) (i : Nat) : Option Key := s.keys.slots.getD i none

/-- Writes key slot i. -/
def State.setKey (s : State) (i : Nat) (k : Option Key) : State :=
  s.setKeys { s.keys with slots := s.keys.slots.set i k }

/-- The lease of stream i (R49). -/
def State.lease (s : State) (i : Nat) : Lease := s.leases.getD i .idle

/-- Writes the lease of stream i. -/
def State.setLease (s : State) (i : Nat) (l : Lease) : State := s.setLeases (s.leases.set i l)

/-- The frame record of a slot of a stream (R77). -/
def State.frame (s : State) (stream slot : Nat) : Frame :=
  (s.frames.getD stream []).getD slot { state := .vacant, generation := 0 }

/-- Writes the frame record of a slot of a stream. -/
def State.setFrame (s : State) (stream slot : Nat) (f : Frame) : State :=
  s.setFrames (s.frames.set stream ((s.frames.getD stream []).set slot f))

/-- The stream entry of stream i (R158). -/
def State.stream (s : State) (i : Nat) : Stream := s.plan.streams.getD i Stream.initial

/-- Does f for every stream in ascending order. -/
def State.forStreams (s : State) (f : Nat → State → State) : State :=
  (List.range Config.streams).foldl (fun s i => f i s) s

/-! ## Power, trip and time -/

/-- The main domain is powered and out of reset (R171, R177). -/
def State.mainUp (s : State) : Bool := decide (s.power.main = .up)

/-- The latch is TRIPPED (R173). -/
def State.isTripped (s : State) : Bool := decide (s.trip.latch ≠ .normal)

/-- The reading's whole seconds (R29). -/
def Clock.seconds (c : Clock) : Nat := c.reading / Config.second

/-- The reading's fraction in units of 1/65536 s (R29). -/
def Clock.fraction (c : Clock) : Nat := c.reading % Config.second

/-- now, in whole seconds (R31). -/
def State.nowSeconds (s : State) : Nat := s.clock.seconds

/-- The clock seconds a record carries: now, 0 while UNSET (R176, R188). -/
def State.recordSeconds (s : State) : BitVec 40 :=
  if s.clock.state = .unset then 0 else BitVec.ofNat 40 s.nowSeconds

/-! ## Bytes and fields -/

/-- Byte k of a beat. -/
def beatByte (b : Beat) (k : Nat) : Byte := b.extractLsb' (8 * k) 8

/-- The 16 bytes of a beat, lowest address first. -/
def beatBytes (b : Beat) : List Byte := (List.range 16).map (beatByte b)

/-- The bytes of a run of beats, lowest address first. -/
def bytesOf (beats : List Beat) : List Byte := beats.flatMap beatBytes

/-- The value of a field stored least significant byte first (12.1). -/
def leValue : List Byte → Nat
  | [] => 0
  | b :: rest => b.toNat + 256 * leValue rest

/-- The field of n bytes at an offset. -/
def field (bytes : List Byte) (offset n : Nat) : Nat := leValue ((bytes.drop offset).take n)

/-- The n bytes of a value, least significant byte first (12.1). -/
def leBytes : Nat → Nat → List Byte
  | 0, _ => []
  | n + 1, v => BitVec.ofNat 8 v :: leBytes n (v / 256)

/-- The beat whose bytes are the first 16 of a list, zero beyond its end. -/
def beatOfBytes (bytes : List Byte) : Beat := BitVec.ofNat 128 (leValue (bytes.take 16))

/-- A write beat with all 16 strobes set. -/
def fullBeat (data : Beat) : WriteBeat := { data := data, strobes := 0xFFFF }

/-- Bit k of a stream set (12.1). -/
def inSet (set : StreamSet) (stream : Nat) : Bool := set.getLsbD stream

/-- The set of the streams of a list (12.1). -/
def setOf (streams : List Nat) : StreamSet := streams.foldl (fun v i => v ||| (1 <<< i)) 0

/-! ## The report writer's hand-overs -/

/-- The report writer takes a record into its staging, or drops it and sets LOST when 64 are staged (R181). -/
def Report.stage (r : Report) (record : Record) : Report :=
  if r.staging.length < Config.stagingPlaces then { r with staging := r.staging ++ [record] }
  else { r with lost := true }

/-- A block hands a record to the report writer (R181). -/
def State.handOver (s : State) (record : Record) : State := s.setReport (s.report.stage record)

/-- A status event: the status beat is due to be rewritten (R186). -/
def State.statusEvent (s : State) : State := s.setReport { s.report with statusPending := true }

/-- The number of unread records (R182). -/
def Report.unread (r : Report) : Nat := (r.producer + Config.ringSlots - r.consumer) % Config.ringSlots

/-- The ring is full (R182). -/
def Report.ringFull (r : Report) : Bool := decide (r.unread = Config.ringSlots - 1)

/-- A request of the report writer, as against a read of the verifier (R127). -/
def InternalKind.ofReport : InternalKind → Bool
  | .verifierRead _ _ _ => false
  | .identityWrite => true
  | .statusWrite => true
  | .recordWrite => true

/-- A block hands a request to the internal requester. When none waited, the requester begins waiting and the
arbiter counts from 0 (R126, R127). -/
def State.handInternal (s : State) (kind : InternalKind) : State :=
  let request : InternalRequest := { tag := s.path.nextTag, kind := kind }
  let grants := if s.internal.waiting = [] then 0 else s.internal.grants
  (s.setPath { s.path with nextTag := s.path.nextTag + 1 }).setInternal
    { s.internal with waiting := s.internal.waiting ++ [request], grants := grants }

/-- The report writer has a request outstanding, from its hand-over to memory's answer (R187). -/
def State.reportOutstanding (s : State) : Bool :=
  (s.internal.waiting ++ s.internal.atMemory).any (fun r => r.kind.ofReport)

/-- The report writer's next request, when it has none outstanding (R187). -/
def Report.nextRequest (r : Report) : Option InternalKind :=
  if r.identityPending then some .identityWrite
  else if r.statusPending then some .statusWrite
  else if r.staging ≠ [] ∧ r.ringFull = false then some .recordWrite
  else none

/-- The report writer makes its next request when it has none outstanding (R187). -/
def State.presentReport (s : State) : State :=
  if s.mainUp ∧ s.reportOutstanding = false then
    match s.report.nextRequest with
    | some kind => s.handInternal kind
    | none => s
  else s

/-! ## How a command acts -/

/-- A command of the main domain acts only while it is up; the report writer then makes its next request. -/
def State.mainAct (s : State) (act : State → State) : State :=
  if s.mainUp then (act s).presentReport else s

/-- A command of the standby domain acts whether or not the main domain is up. -/
def State.standbyAct (s : State) (act : State → State) : State := (act s).presentReport

end Sys2Proof.Machine
end

