-- ==== Sys2Proof/Machine/Flags.lean ====
section
/-! DEFINITION. The codes of 12.7 and the lines and flags computed from the state: ATTN, TRIP_OUT, LOST_BEFORE. -/

namespace Sys2Proof.Machine

/-- 12.7, Report kinds. -/
def RecordKind.code : RecordKind → Byte
  | .parcelTaken => 0x01
  | .parcelRefused => 0x02
  | .keyOpened => 0x10
  | .keyClosed => 0x11
  | .keyFreed => 0x12
  | .keyWithdrawn => 0x13
  | .keyRevoked => 0x14
  | .leaseOpened => 0x20
  | .leaseRefused => 0x21
  | .leaseOverrun => 0x22
  | .leaseHeld => 0x23
  | .leaseResumed => 0x24
  | .leaseEnded => 0x25
  | .frameBroken => 0x30
  | .clockState => 0x40
  | .clockStep => 0x41
  | .dayBegan => 0x42
  | .tripped => 0x50
  | .tripCleared => 0x51
  | .resetDone => 0x60

/-- The parcel kinds (12.7). -/
inductive ParcelKind where
  | grant
  | revoke
  | plan
  | time
  | tripTest
  deriving DecidableEq, Repr

/-- 12.7, Parcel kinds. -/
def ParcelKind.code : ParcelKind → Byte
  | .grant => 0x01
  | .revoke => 0x02
  | .plan => 0x03
  | .time => 0x04
  | .tripTest => 0x05

/-- The kind a kind code names (12.7, R136 check 1). -/
def parcelKind (code : Byte) : Option ParcelKind :=
  if code = 0x01 then some .grant
  else if code = 0x02 then some .revoke
  else if code = 0x03 then some .plan
  else if code = 0x04 then some .time
  else if code = 0x05 then some .tripTest
  else none

/-- The parcel refusal causes (12.7). -/
inductive RefusalCause where
  | format
  | length
  | wrongDevice
  | tag
  | torn
  | busy
  | memoryError
  | tripped
  | clockUnset
  | badField
  | badWrap
  | stale
  | revoked
  | keyConflict
  | keyClosed
  | keyWithdrawn
  | tableFull
  | expiredOnArrival
  | duplicateEntry
  | overlap
  | streamBusy
  | shrink
  | trackers
  | dupSource
  | tamperActive
  deriving DecidableEq, Repr

/-- 12.7, Parcel refusal causes. -/
def RefusalCause.code : RefusalCause → Byte
  | .format => 0x01
  | .length => 0x02
  | .wrongDevice => 0x03
  | .tag => 0x04
  | .torn => 0x05
  | .busy => 0x06
  | .memoryError => 0x07
  | .tripped => 0x08
  | .clockUnset => 0x09
  | .badField => 0x0A
  | .badWrap => 0x0B
  | .stale => 0x0C
  | .revoked => 0x0D
  | .keyConflict => 0x0E
  | .keyClosed => 0x0F
  | .keyWithdrawn => 0x10
  | .tableFull => 0x11
  | .expiredOnArrival => 0x12
  | .duplicateEntry => 0x13
  | .overlap => 0x14
  | .streamBusy => 0x15
  | .shrink => 0x16
  | .trackers => 0x17
  | .dupSource => 0x18
  | .tamperActive => 0x19

/-- 12.7, Lease causes. -/
def LeaseCause.code : LeaseCause → Byte
  | .noKey => 0x01
  | .keyWaiting => 0x02
  | .keyClosed => 0x03
  | .keyWithdrawn => 0x04
  | .auditorium => 0x05
  | .feature => 0x06
  | .allowance => 0x07
  | .clock => 0x08
  | .window => 0x09
  | .listFull => 0x0A
  | .gracePassed => 0x0B

/-- 12.7, Lease causes, end causes. -/
def EndCause.code : EndCause → Byte
  | .superseded => 0x01
  | .expired => 0x02
  | .revoked => 0x03
  | .tripped => 0x04
  | .retired => 0x05

/-- 12.7, Lease states. -/
def SavedState.code : SavedState → Byte
  | .running => 0x02
  | .overrun => 0x03

/-- 12.7, Frame broken causes. -/
def BrokenCause.code : BrokenCause → Byte
  | .badHeader => 0x01
  | .foreignWrite => 0x02
  | .outOfOrder => 0x03
  | .partialBeat => 0x04
  | .rewrite => 0x05
  | .memoryError => 0x06
  | .span => 0x07

/-- 12.7, Trip causes. -/
def TripCause.code : TripCause → Byte
  | .tamper => 0x01
  | .tripTest => 0x02
  | .standbyLost => 0x03
  | .suspectRepeat => 0x04

/-- The occasions of a TRIPPED record (12.7). -/
inductive Occasion where
  | first
  | again
  | atReset
  deriving DecidableEq, Repr

/-- 12.7, Occasion: FIRST, REPEAT, AT_RESET. -/
def Occasion.code : Occasion → Byte
  | .first => 0x01
  | .again => 0x02
  | .atReset => 0x03

/-- 12.7, Clock state. -/
def ClockState.code : ClockState → Byte
  | .unset => 0
  | .running => 1
  | .suspect => 2

/-- The causes of a CLOCK_STEP record (12.7). -/
inductive StepCause where
  | jump
  | resync
  deriving DecidableEq, Repr

/-- 12.7, CLOCK_STEP cause. -/
def StepCause.code : StepCause → Byte
  | .jump => 0x01
  | .resync => 0x02

/-- The causes of a DAY_BEGAN record (R44). -/
inductive DayCause where
  | byTime
  | bySetting
  | byOffset
  deriving DecidableEq, Repr

/-- 12.7, DAY_BEGAN cause. -/
def DayCause.code : DayCause → Byte
  | .byTime => 0x01
  | .bySetting => 0x02
  | .byOffset => 0x03

/-- The outcomes of a TIME parcel (R46). -/
inductive TimeOutcome where
  | jump
  | slewForward
  | noChange
  | slewBackward
  | suspect
  | resync
  deriving DecidableEq, Repr

/-- 12.7, TIME outcome. -/
def TimeOutcome.code : TimeOutcome → Byte
  | .jump => 0x01
  | .slewForward => 0x02
  | .noChange => 0x03
  | .slewBackward => 0x04
  | .suspect => 0x05
  | .resync => 0x06

/-- The causes of a KEY_OPENED record (12.7). -/
inductive OpenedCause where
  | onGrant
  | onTime
  deriving DecidableEq, Repr

/-- 12.7, Key record causes. -/
def OpenedCause.code : OpenedCause → Byte
  | .onGrant => 0x01
  | .onTime => 0x02

/-- The causes of a KEY_FREED record (12.7). -/
inductive FreedCause where
  | graceEnded
  | lastLeaseEnded
  deriving DecidableEq, Repr

/-- 12.7, Key record causes. -/
def FreedCause.code : FreedCause → Byte
  | .graceEnded => 0x01
  | .lastLeaseEnded => 0x02

/-- The modes of a REVOKE (12.7). -/
inductive RevokeMode where
  | immediate
  | afterShow
  deriving DecidableEq, Repr

/-- 12.7, REVOKE mode. -/
def RevokeMode.code : RevokeMode → Byte
  | .immediate => 0x01
  | .afterShow => 0x02

/-- The mode a REVOKE's mode code names (12.7, R150). -/
def revokeMode (code : Nat) : Option RevokeMode :=
  if code = 0x01 then some .immediate else if code = 0x02 then some .afterShow else none

/-- 12.7, PLAN entry mode and LEASE_OPENED cause. -/
def Mode.code : Mode → Byte
  | .show => 0x01
  | .check => 0x02

/-- The mode a PLAN entry's mode code names (12.7, R163). -/
def streamMode (code : Nat) : Option Mode :=
  if code = 0x01 then some .show else if code = 0x02 then some .check else none

/-- The arbitration mode a PLAN's code names (12.7, R162). -/
def arbitrationMode (code : Nat) : Option Arbitration :=
  if code = 0x01 then some .rotating else if code = 0x02 then some .fixed else none

/-- The reset kinds (12.7). -/
inductive ResetKind where
  | warm
  | cold
  | coldStandbyLost
  deriving DecidableEq, Repr

/-- 12.7, Reset kinds. -/
def ResetKind.code : ResetKind → Byte
  | .warm => 0x01
  | .cold => 0x02
  | .coldStandbyLost => 0x03

/-- The recorded cause, none while the latch is NORMAL (R173). -/
def Latch.cause : Latch → Option TripCause
  | .normal => none
  | .tripped cause => some cause

/-- The status beat's trip-cause field: the recorded cause, or 0 (R186). -/
def Latch.code (l : Latch) : Byte :=
  match l.cause with
  | none => 0
  | some cause => cause.code

/-- The ATTN line: high while the indices differ, low while the main domain is down (R185). -/
def State.attn (s : State) : Bool := s.mainUp && decide (s.report.producer ≠ s.report.consumer)

/-- The TRIP_OUT line: it follows the latch while VMAIN is present, RESET_N asserted or not (R173); none is
the line of an unpowered part, of which the manual says nothing. -/
def State.tripOut (s : State) : Option Bool :=
  if s.power.main = .off then none else some s.isTripped

/-- The flags byte of a record: bit 0 is LOST_BEFORE, the LOST flag when the write is issued (R183). -/
def lostBefore (lost : Bool) : Byte := if lost then 1 else 0

end Sys2Proof.Machine
end

