-- ==== Sys2Proof/Machine/Records.lean ====
section
/-! DEFINITION. The report records, one function for each row of R192's table, and the layout in which a record is
written (12.4). Every record carries the reading at which it is handed over (R192). -/

namespace Sys2Proof.Machine

/-- The stream field of a record that concerns no stream (R193). -/
def noStream : Byte := 0xFF

/-- The index field of a record that names no slot, cell or entry (R193). -/
def noIndex : BitVec 16 := 0xFFFF

/-- Bits 0 to 31 of a 40-bit time (R192). -/
def timeLow (t : Nat) : BitVec 32 := BitVec.ofNat 32 t

/-- Bits 32 to 39 of a 40-bit time, in the low byte (R192). -/
def timeHigh (t : Nat) : BitVec 32 := BitVec.ofNat 32 (t / 2 ^ 32 % 256)

/-- A code in the low byte of a data field (R192). -/
def codeData (code : Byte) : BitVec 32 := code.setWidth 32

/-- PARCEL_TAKEN (R140). -/
def State.parcelTakenRecord (s : State) (kind : Byte) (number : BitVec 32) (cell : Nat)
    (data : BitVec 32 × BitVec 32 × BitVec 32) : Record :=
  { kind := .parcelTaken, cause := kind, stream := noStream, subject := number, seconds := s.recordSeconds,
    data0 := data.1, data1 := data.2.1, data2 := data.2.2, index := BitVec.ofNat 16 cell }

/-- PARCEL_REFUSED (R141). Of a kind byte that is in no table of 12.7 (a parcel refused BUSY, TORN, MEMORY_ERROR, FORMAT or
TRIPPED can hold one) R141 gives the kind code as read or captured, and R193 lets the part write only codes of those
tables: DESIGN CHOICE (log 42), the byte is written as it stands. -/
def State.parcelRefusedRecord (s : State) (cause : RefusalCause) (fields : Captured) (cell : Nat)
    (index : BitVec 16) : Record :=
  { kind := .parcelRefused, cause := cause.code, stream := noStream, subject := fields.number,
    seconds := s.recordSeconds, data0 := codeData fields.kind, data1 := BitVec.ofNat 32 cell,
    data2 := fields.length.setWidth 32, index := index }

/-- A key record of R192's third to sixth rows: a key, its slot and a time. -/
def State.keyTimeRecord (s : State) (kind : RecordKind) (cause : Byte) (slot : Nat) (k : Key) (time : Nat) :
    Record :=
  { kind := kind, cause := cause, stream := noStream, subject := k.keyId, seconds := s.recordSeconds,
    data0 := k.revision.setWidth 32, data1 := timeLow time, data2 := timeHigh time,
    index := BitVec.ofNat 16 slot }

/-- The freeing time of a key: not-after plus grace at 60 seconds a minute (R1). -/
def Key.freeingTime (k : Key) : Nat := k.notAfter + 60 * k.grace

/-- KEY_OPENED (R16, R17, R21). -/
def State.keyOpenedRecord (s : State) (cause : OpenedCause) (slot : Nat) (k : Key) : Record :=
  s.keyTimeRecord .keyOpened cause.code slot k k.notBefore

/-- KEY_CLOSED (R22). -/
def State.keyClosedRecord (s : State) (slot : Nat) (k : Key) : Record :=
  s.keyTimeRecord .keyClosed 0 slot k k.notAfter

/-- KEY_FREED, of cause GRACE_ENDED with the freeing time (R23), of LAST_LEASE_ENDED with the reading (R27). -/
def State.keyFreedRecord (s : State) (cause : FreedCause) (slot : Nat) (k : Key) : Record :=
  let time := match cause with
    | .graceEnded => k.freeingTime
    | .lastLeaseEnded => s.nowSeconds
  s.keyTimeRecord .keyFreed cause.code slot k time

/-- KEY_REVOKED and KEY_WITHDRAWN (R152). -/
def State.keyRevocationRecord (s : State) (kind : RecordKind) (mode : RevokeMode) (slot : Nat) (k : Key)
    (revision : Revision) (number : BitVec 32) : Record :=
  { kind := kind, cause := mode.code, stream := noStream, subject := k.keyId, seconds := s.recordSeconds,
    data0 := k.revision.setWidth 32, data1 := revision.setWidth 32, data2 := number,
    index := BitVec.ofNat 16 slot }

/-- A lease record of R192: a stream and a show tag, with a cause and three data fields. -/
def State.leaseRecord (s : State) (kind : RecordKind) (cause : Byte) (stream : Nat) (tag : BitVec 16)
    (data : BitVec 32 × BitVec 32 × BitVec 32) (index : BitVec 16) : Record :=
  { kind := kind, cause := cause, stream := BitVec.ofNat 8 stream, subject := tag.setWidth 32,
    seconds := s.recordSeconds, data0 := data.1, data1 := data.2.1, data2 := data.2.2, index := index }

/-- LEASE_OPENED (R56). -/
def State.leaseOpenedRecord (s : State) (stream : Nat) (show_ : Show) (keyId : KeyId) (slot : Nat) : Record :=
  s.leaseRecord .leaseOpened show_.mode.code stream show_.tag
    (keyId, timeLow show_.hardEnd, timeHigh show_.hardEnd) (BitVec.ofNat 16 slot)

/-- LEASE_REFUSED (R57). -/
def State.leaseRefusedRecord (s : State) (stream : Nat) (tag : BitVec 16) (r : LeaseRefusal) : Record :=
  s.leaseRecord .leaseRefused r.cause.code stream tag (r.wanting, r.generation.setWidth 32, 0) noIndex

/-- LEASE_OVERRUN, naming the key that closes or joins (R63, R67). -/
def State.leaseOverrunRecord (s : State) (stream : Nat) (tag : BitVec 16) (keyId : KeyId) : Record :=
  s.leaseRecord .leaseOverrun 0 stream tag (keyId, 0, 0) noIndex

/-- LEASE_HELD (R69). -/
def State.leaseHeldRecord (s : State) (stream : Nat) (tag : BitVec 16) (saved : SavedState) : Record :=
  s.leaseRecord .leaseHeld 0 stream tag (codeData saved.code, 0, 0) noIndex

/-- LEASE_RESUMED (R70). -/
def State.leaseResumedRecord (s : State) (stream : Nat) (tag : BitVec 16) (saved : SavedState) (since : Nat) :
    Record :=
  s.leaseRecord .leaseResumed 0 stream tag (codeData saved.code, timeLow since, timeHigh since) noIndex

/-- LEASE_ENDED (R74). -/
def State.leaseEndedRecord (s : State) (stream : Nat) (cause : EndCause) (show_ : Show) : Record :=
  let first := match show_.firstRefusal with
    | none => 0
    | some c => codeData c.code
  s.leaseRecord .leaseEnded cause.code stream show_.tag
    (BitVec.ofNat 32 show_.plainCount, BitVec.ofNat 32 show_.darkCount, first) noIndex

/-- FRAME_BROKEN (R90). -/
def State.frameBrokenRecord (s : State) (stream slot : Nat) (cause : BrokenCause) (writer : Option SourceId)
    (header : Option Header) (source : SourceId) (data2 : Nat) : Record :=
  { kind := .frameBroken, cause := cause.code, stream := BitVec.ofNat 8 stream
    subject := match header with
      | none => 0
      | some h => h.tag.setWidth 32
    seconds := s.recordSeconds, data0 := source.setWidth 32
    data1 := match writer with
      | none => 0xFFFFFFFF
      | some w => w.setWidth 32
    data2 := BitVec.ofNat 32 data2, index := BitVec.ofNat 16 slot }

/-- CLOCK_STATE, handed over after the change (R32). -/
def State.clockStateRecord (s : State) (old : ClockState) (number : BitVec 32) : Record :=
  { kind := .clockState, cause := s.clock.state.code, stream := noStream, subject := number,
    seconds := s.recordSeconds, data0 := codeData old.code, data1 := 0, data2 := 0, index := noIndex }

/-- CLOCK_STEP, handed over after the change, with the record of the clock before it (R35, R42). -/
def State.clockStepRecord (s : State) (cause : StepCause) (before : Clock) (number : BitVec 32) : Record :=
  { kind := .clockStep, cause := cause.code, stream := noStream, subject := number, seconds := s.recordSeconds,
    data0 := timeLow before.seconds, data1 := timeHigh before.seconds,
    data2 := BitVec.ofNat 32 (before.fraction + 65536 * s.clock.fraction), index := noIndex }

/-- DAY_BEGAN (R44). -/
def State.dayBeganRecord (s : State) (cause : DayCause) (new old : Nat) : Record :=
  { kind := .dayBegan, cause := cause.code, stream := noStream, subject := 0, seconds := s.recordSeconds,
    data0 := BitVec.ofNat 32 new, data1 := BitVec.ofNat 32 old, data2 := 0, index := noIndex }

/-- TRIPPED (R176). -/
def State.trippedRecord (s : State) (cause : TripCause) (number : BitVec 32) (occasion : Occasion)
    (recorded : TripCause) (erased : Nat) : Record :=
  { kind := .tripped, cause := cause.code, stream := noStream, subject := number, seconds := s.recordSeconds,
    data0 := codeData occasion.code, data1 := codeData recorded.code, data2 := BitVec.ofNat 32 erased,
    index := noIndex }

/-- TRIP_CLEARED, with the reading before the RESYNC (R179). -/
def State.tripClearedRecord (s : State) (cause : TripCause) (number : BitVec 32) (suspects : Nat) : Record :=
  { kind := .tripCleared, cause := cause.code, stream := noStream, subject := number,
    seconds := s.recordSeconds, data0 := BitVec.ofNat 32 suspects, data1 := 0, data2 := 0, index := noIndex }

/-- RESET_DONE (R188). -/
def State.resetDoneRecord (s : State) (kind : ResetKind) : Record :=
  { kind := .resetDone, cause := 0, stream := noStream, subject := 0, seconds := s.recordSeconds,
    data0 := codeData kind.code, data1 := s.intakeSel.setWidth 32, data2 := 0, index := noIndex }

/-- The 32 bytes of a record as it is written, with its flags (12.4, R183, R193). -/
def Record.bytes (r : Record) (lost : Bool) : List Byte :=
  [r.kind.code, r.cause, lostBefore lost, r.stream]
    ++ leBytes 4 r.subject.toNat
    ++ leBytes 8 r.seconds.toNat
    ++ leBytes 4 r.data0.toNat
    ++ leBytes 4 r.data1.toNat
    ++ leBytes 4 r.data2.toNat
    ++ leBytes 2 r.index.toNat
    ++ [0, 0]

end Sys2Proof.Machine
end

