-- ==== Sys2Proof/Machine/Operands.lean ====
section
/-! DEFINITION. How commands' operands are read: where the beats of a burst lie (R76, R114, R116), and the fields of
the formats that software and the key authority write (12_record_formats.md). -/

namespace Sys2Proof.Machine

/-! ## Addresses -/

/-- The address of a burst's first beat: the beat that contains its start address (R114). -/
def firstBeat (address : BitVec 36) : Nat := address.toNat / 16 * 16

/-- The address of beat k of a burst (R114). -/
def beatAddress (address : BitVec 36) (k : Nat) : Nat := firstBeat address + 16 * k

/-- The base of the intake window (R116). -/
def State.intakeBase (s : State) : Nat := 2 ^ 30 * s.intakeSel.toNat

/-- The size of the intake window, 64 KiB (R116). -/
def intakeSize : Nat := 0x10000

/-- The parcel cell in which a beat lies (R116, R130). -/
def State.cellAt (s : State) (address : Nat) : Option Nat :=
  if s.intakeBase ≤ address ∧ address < s.intakeBase + 0x8000 then some ((address - s.intakeBase) / 0x400)
  else none

/-- The beat is beat 0 of its cell (R130). -/
def State.isCellStart (s : State) (address : Nat) : Bool :=
  decide ((address - s.intakeBase) % 0x400 = 0)

/-- The beat is the consumer beat (R116). -/
def State.isConsumerBeat (s : State) (address : Nat) : Bool := decide (address = s.intakeBase + 0x8010)

/-- The slot size of a stream, 512 KiB times a power of two (R76). -/
def Stream.slotSize (t : Stream) : Nat := 2 ^ (19 + t.sizeCode)

/-- The first address past a stream's ring (R76). -/
def Stream.ringEnd (t : Stream) : Nat := t.base + t.slotCount * t.slotSize

/-- A place in a ring: stream, slot, beat offset within the slot (R76). -/
structure RingPlace where
  stream : Nat
  slot   : Nat
  offset : Nat
  deriving DecidableEq, Repr

/-- The place of an address in the ring of one stream (R76). -/
def Stream.placeOf (t : Stream) (stream address : Nat) : Option RingPlace :=
  if t.enabled ∧ t.base ≤ address ∧ address < t.ringEnd then
    some { stream := stream, slot := (address - t.base) / t.slotSize,
           offset := (address - t.base) % t.slotSize / 16 }
  else none

/-- The place of an address among the rings of the streams from a first stream number on. -/
def ringPlaceFrom (address : Nat) : List Stream → Nat → Option RingPlace
  | [], _ => none
  | t :: rest, n =>
    match t.placeOf n address with
    | some p => some p
    | none => ringPlaceFrom address rest (n + 1)

/-- The place of an address in a ring, if it lies in one (R76, R116). -/
def State.ringPlace (s : State) (address : Nat) : Option RingPlace := ringPlaceFrom address s.plan.streams 0

/-- The addresses of a burst's beats, ascending (R114). -/
def burstAddresses (address : BitVec 36) (length : Nat) : List Nat :=
  (List.range length).map (beatAddress address)

/-- The class of a burst by the rings it touches (R116). -/
inductive RingClass where
  | outside
  | ring (place : RingPlace)
  | span
  deriving DecidableEq, Repr

/-- Two beats lie in one slot of one ring (R116). -/
def sameSlot (p : RingPlace) : Option RingPlace → Bool
  | none => false
  | some q => decide (p.stream = q.stream ∧ p.slot = q.slot)

/-- The class of a list of beat places: a span request when some beat lies in a ring and the beats do not all lie
in one slot (R116). -/
def ringClassOf : List (Option RingPlace) → RingClass
  | [] => .outside
  | none :: rest => if rest.any (fun p => p.isSome) then .span else .outside
  | some p :: rest => if rest.all (sameSlot p) then .ring p else .span

/-- The class of a burst (R116). -/
def State.ringClass (s : State) (address : BitVec 36) (length : Nat) : RingClass :=
  ringClassOf ((burstAddresses address length).map s.ringPlace)

/-- The beats of a write burst with their addresses, ascending (R114). -/
def beatsAt (address : BitVec 36) (beats : List WriteBeat) : List (Nat × WriteBeat) :=
  (burstAddresses address beats.length).zip beats

/-! ## The parcel header (12.3) -/

/-- The parcel number, kind and length of a parcel's beat 0, from offsets 6, 3 and 4 (R130, R190). -/
def capturedFields (beat : Beat) : Captured :=
  { number := beat.extractLsb' 48 32, kind := beatByte beat 3, length := beat.extractLsb' 32 16 }

/-- Beat 0 of a parcel. -/
def headBeat : List Beat → Beat
  | [] => 0
  | b :: _ => b

/-- The target device ID the verifier forms: the family code over the header's 48 bits (R190). -/
def targetDevice (beat : Beat) : BitVec 64 := Config.familyCode ++ beat.extractLsb' 80 48

/-- The fused device ID (R190). -/
def Fuses.fullId (f : Fuses) : BitVec 64 := Config.familyCode ++ f.deviceId

/-! ## GRANT (12.3) -/

/-- The common part of a GRANT, as read. -/
structure GrantCommon where
  feature       : BitVec 32
  auditoriums   : StreamSet
  grace         : Nat
  flags         : Nat
  notBefore     : Nat
  notAfter      : Nat
  maxRun        : Nat
  allowanceBase : Nat
  padding       : Nat
  deriving DecidableEq, Repr

/-- An entry of a GRANT, as read. -/
structure GrantEntry where
  keyId    : KeyId
  revision : Revision
  padding  : Nat
  wrapped  : BitVec 128
  deriving DecidableEq, Repr

/-- The common part of a GRANT, parcel bytes 16 to 47. -/
def grantCommon (bytes : List Byte) : GrantCommon :=
  { feature := BitVec.ofNat 32 (field bytes 16 4)
    auditoriums := BitVec.ofNat 16 (field bytes 20 2)
    grace := field bytes 22 1
    flags := field bytes 23 1
    notBefore := field bytes 24 8
    notAfter := field bytes 32 8
    maxRun := field bytes 40 2
    allowanceBase := field bytes 42 2
    padding := field bytes 44 4 }

/-- Entry i of a GRANT, parcel bytes 48 + 32i on. -/
def grantEntry (bytes : List Byte) (i : Nat) : GrantEntry :=
  { keyId := BitVec.ofNat 32 (field bytes (48 + 32 * i) 4)
    revision := BitVec.ofNat 16 (field bytes (52 + 32 * i) 2)
    padding := field bytes (54 + 32 * i) 10
    wrapped := BitVec.ofNat 128 (field bytes (64 + 32 * i) 16) }

/-- The entries of a GRANT of length L: n = (L - 64) / 32 of them (1.2). -/
def grantEntries (bytes : List Byte) (length : Nat) : List GrantEntry :=
  (List.range ((length - 64) / 32)).map (grantEntry bytes)

/-! ## REVOKE (12.3) -/

/-- The common part of a REVOKE, as read. -/
structure RevokeCommon where
  mode    : Nat
  count   : Nat
  padding : Nat
  deriving DecidableEq, Repr

/-- An entry of a REVOKE, as read. -/
structure RevokeEntry where
  keyId       : KeyId
  revision    : Revision
  padding     : Nat
  retainUntil : Nat
  deriving DecidableEq, Repr

/-- The common part of a REVOKE, parcel bytes 16 to 31. -/
def revokeCommon (bytes : List Byte) : RevokeCommon :=
  { mode := field bytes 16 1, count := field bytes 17 1, padding := field bytes 18 14 }

/-- Entry i of a REVOKE, parcel bytes 32 + 16i on. -/
def revokeEntry (bytes : List Byte) (i : Nat) : RevokeEntry :=
  { keyId := BitVec.ofNat 32 (field bytes (32 + 16 * i) 4)
    revision := BitVec.ofNat 16 (field bytes (36 + 16 * i) 2)
    padding := field bytes (38 + 16 * i) 2
    retainUntil := field bytes (40 + 16 * i) 8 }

/-- The entries of a REVOKE of length L: n = (L - 48) / 16 of them (8.2). -/
def revokeEntries (bytes : List Byte) (length : Nat) : List RevokeEntry :=
  (List.range ((length - 48) / 16)).map (revokeEntry bytes)

/-! ## PLAN (12.3) -/

/-- The common part of a PLAN, as read. -/
structure PlanCommon where
  revision    : BitVec 32
  dayOffset   : Nat
  arbitration : Nat
  count       : Nat
  padding     : Nat
  fill        : Beat
  deriving DecidableEq, Repr

/-- A stream entry of a PLAN, as read. -/
structure PlanEntry where
  stream    : Nat
  action    : Nat
  source    : SourceId
  mode      : Nat
  sizeCode  : Nat
  slotCount : Nat
  reserved  : Nat
  padding   : Nat
  base      : Nat
  deriving DecidableEq, Repr

/-- The common part of a PLAN, parcel bytes 16 to 47. -/
def planCommon (bytes : List Byte) : PlanCommon :=
  { revision := BitVec.ofNat 32 (field bytes 16 4)
    dayOffset := field bytes 20 4
    arbitration := field bytes 24 1
    count := field bytes 25 1
    padding := field bytes 26 6
    fill := BitVec.ofNat 128 (field bytes 32 16) }

/-- Stream entry i of a PLAN, parcel bytes 48 + 16i on. -/
def planEntry (bytes : List Byte) (i : Nat) : PlanEntry :=
  { stream := field bytes (48 + 16 * i) 1
    action := field bytes (49 + 16 * i) 1
    source := BitVec.ofNat 8 (field bytes (50 + 16 * i) 1)
    mode := field bytes (51 + 16 * i) 1
    sizeCode := field bytes (52 + 16 * i) 1
    slotCount := field bytes (53 + 16 * i) 1
    reserved := field bytes (54 + 16 * i) 1
    padding := field bytes (55 + 16 * i) 1
    base := field bytes (56 + 16 * i) 8 }

/-- The entries of a PLAN of length L: n = (L - 64) / 16 of them (9.2). -/
def planEntries (bytes : List Byte) (length : Nat) : List PlanEntry :=
  (List.range ((length - 64) / 16)).map (planEntry bytes)

/-! ## TIME and TRIP_TEST (12.3) -/

/-- The body of a TIME parcel, as read. -/
structure TimeBody where
  seconds  : Nat
  fraction : Nat
  flags    : Nat
  padding  : Nat
  deriving DecidableEq, Repr

/-- The body of a TIME parcel, parcel bytes 16 to 31. -/
def timeBody (bytes : List Byte) : TimeBody :=
  { seconds := field bytes 16 8, fraction := field bytes 24 2, flags := field bytes 26 1,
    padding := field bytes 27 5 }

/-- T, in units of 1/65536 s (2.4). -/
def TimeBody.reading (b : TimeBody) : Nat := Config.second * b.seconds + b.fraction

/-- The RESYNC flag, bit 0. -/
def TimeBody.resync (b : TimeBody) : Bool := b.flags.testBit 0

/-- The CLEAR_TRIP flag, bit 1. -/
def TimeBody.clearTrip (b : TimeBody) : Bool := b.flags.testBit 1

/-- The body of a TRIP_TEST, parcel bytes 16 to 31, as one number. -/
def tripTestBody (bytes : List Byte) : Nat := field bytes 16 16

/-! ## The frame header (12.2) -/

/-- The header of the 64 bytes captured, read whether good or bad. -/
def parseHeader (bytes : List Byte) : Header :=
  { clear := (field bytes 3 1).testBit 0
    tag := BitVec.ofNat 16 (field bytes 4 2)
    keyId := BitVec.ofNat 32 (field bytes 6 4)
    feature := BitVec.ofNat 32 (field bytes 10 4)
    frameIndex := BitVec.ofNat 32 (field bytes 14 4)
    payloadLength := field bytes 18 4 }

/-- The number of the first failing header check of R82, for a slot of the given size. -/
def headerFault (bytes : List Byte) (slotSize : Nat) : Option Nat :=
  let length := field bytes 18 4
  if field bytes 0 2 ≠ 0xA51C then some 1
  else if field bytes 2 1 ≠ 1 then some 2
  else if 1 < field bytes 3 1 then some 3
  else if field bytes 4 2 = 0 ∧ field bytes 3 1 = 0 then some 4
  else if length % 16 ≠ 0 ∨ length < 16 ∨ slotSize - 64 < length then some 5
  else if field bytes 22 42 ≠ 0 then some 6
  else none

/-- P, the number of payload beats (R77). -/
def Header.payloadBeats (h : Header) : Nat := h.payloadLength / 16

end Sys2Proof.Machine
end

