-- ==== Sys2Proof/Machine/Frames.lean ====
section
/-! DEFINITION. The frame monitor: one beat against one record (R80 to R87), a burst in one slot (R79), a burst over
a slot boundary (R89), memory's answers (R83, R88) and the reset notice (R93). -/

namespace Sys2Proof.Machine

/-- All 16 strobes set (R79). -/
def isFull (b : WriteBeat) : Bool := decide (b.strobes = 0xFFFF)

/-- No strobe set: the beat writes nothing (R79). -/
def isEmptyBeat (b : WriteBeat) : Bool := decide (b.strobes = 0)

/-- The writer a record holds (R77). -/
def FrameState.writer : FrameState → Option SourceId
  | .vacant => none
  | .header w _ _ => some w
  | .filling w _ _ => some w
  | .ready w _ => some w
  | .broken _ w _ => w

/-- The parsed header a record holds (R77). -/
def FrameState.parsed : FrameState → Option Header
  | .vacant => none
  | .header _ _ _ => none
  | .filling _ _ h => some h
  | .ready _ h => some h
  | .broken _ _ h => h

/-- The fill counter a record holds (R77). -/
def FrameState.fill : FrameState → Option Nat
  | .vacant => none
  | .header _ n _ => some n
  | .filling _ n _ => some n
  | .ready _ _ => none
  | .broken _ _ _ => none

/-- A BROKEN record with its cause: it keeps its writer and its parsed header, and its generation (R90). -/
def Frame.breakAs (f : Frame) (cause : BrokenCause) : Frame :=
  { f with state := .broken cause f.state.writer f.state.parsed }

/-- What one beat does to a record (R80). -/
inductive BeatAct where
  | pass
  | restart
  | breakAs (cause : BrokenCause)
  | take
  deriving DecidableEq, Repr

/-- The tests of R80 that follow its second, for a record that is HEADER or FILLING. -/
def ownedBeatAct (writer : SourceId) (fill : Nat) (source : SourceId) (offset : Nat) (b : WriteBeat) : BeatAct :=
  if source ≠ writer then .breakAs .foreignWrite
  else if !isFull b then .breakAs .partialBeat
  else if offset ≠ fill then .breakAs .outOfOrder
  else .take

/-- The tests of R80 in order; a beat with no strobe set is passed over (R79). -/
def Frame.beatAct (f : Frame) (source : SourceId) (offset : Nat) (b : WriteBeat) : BeatAct :=
  if isEmptyBeat b then .pass
  else if offset = 0 ∧ isFull b then .restart
  else match f.state with
    | .broken _ _ _ => .pass
    | .vacant => if !isFull b then .breakAs .partialBeat else .breakAs .outOfOrder
    | .header writer fill _ => ownedBeatAct writer fill source offset b
    | .filling writer fill h =>
      if 4 + h.payloadBeats ≤ offset then .pass else ownedBeatAct writer fill source offset b
    | .ready _ h => if 4 + h.payloadBeats ≤ offset then .pass else .breakAs .rewrite

/-- A restart by a full-strobe beat 0 (R80). -/
def Frame.restart (f : Frame) (source : SourceId) (data : Beat) : Frame :=
  { state := .header source 1 [data], generation := f.generation + 1 }

/-- A beat taken in place (R81, R83). The second component is the number of the header check that failed. -/
def Frame.take (f : Frame) (slotSize : Nat) (data : Beat) : Frame × Option Nat :=
  match f.state with
  | .header writer fill capture =>
    let bytes := bytesOf (capture ++ [data])
    if fill + 1 = 4 then
      match headerFault bytes slotSize with
      | none => ({ f with state := .filling writer 4 (parseHeader bytes) }, none)
      | some n => (f.breakAs .badHeader, some n)
    else ({ f with state := .header writer (fill + 1) (capture ++ [data]) }, none)
  | .filling writer fill h => ({ f with state := .filling writer (fill + 1) h }, none)
  | .vacant => (f, none)
  | .ready _ _ => (f, none)
  | .broken _ _ _ => (f, none)

/-- A slot breaks, with its FRAME_BROKEN record (R90). -/
def State.breakSlot (s : State) (stream slot : Nat) (cause : BrokenCause) (source : SourceId) (data2 : Nat) :
    State :=
  let f := (s.frame stream slot).breakAs cause
  (s.setFrame stream slot f).handOver
    (s.frameBrokenRecord stream slot cause f.state.writer f.state.parsed source data2)

/-- One beat of a burst that lies in one slot. The Bool says whether some beat so far was taken under R80 rows 1
or 8 (R79). -/
def State.slotBeat (stream slot : Nat) (source : SourceId) (acc : State × Bool) (b : Nat × WriteBeat) :
    State × Bool :=
  let s := acc.1
  let f := s.frame stream slot
  match f.beatAct source b.1 b.2 with
  | .pass => acc
  | .restart => (s.setFrame stream slot (f.restart source b.2.data), true)
  | .breakAs cause => (s.breakSlot stream slot cause source b.1, acc.2)
  | .take =>
    match f.take (s.stream stream).slotSize b.2.data with
    | (f', none) => (s.setFrame stream slot f', true)
    | (_, some n) => (s.breakSlot stream slot .badHeader source n, true)

/-- A write burst in one slot, its beats in ascending offset from its first beat's place (R79), and what the path
unit keeps of it for its answer. -/
def State.slotBurst (s : State) (place : RingPlace) (source : SourceId) (beats : List WriteBeat) :
    State × Option Kept :=
  let offsets := (List.range beats.length).map (fun k => place.offset + k)
  let (t, taken) := (offsets.zip beats).foldl (State.slotBeat place.stream place.slot source) (s, false)
  if taken then
    (t, some { stream := place.stream, slot := place.slot,
               generation := (t.frame place.stream place.slot).generation })
  else (t, none)

/-- One touched slot of a burst that crosses a slot boundary: it breaks SPAN unless it is BROKEN already, with the
offset of the burst's first beat in it (R89). -/
def State.spanSlot (source : SourceId) (s : State) (p : RingPlace) : State :=
  match (s.frame p.stream p.slot).state with
  | .broken _ _ _ => s
  | .vacant => s.breakSlot p.stream p.slot .span source p.offset
  | .header _ _ _ => s.breakSlot p.stream p.slot .span source p.offset
  | .filling _ _ _ => s.breakSlot p.stream p.slot .span source p.offset
  | .ready _ _ => s.breakSlot p.stream p.slot .span source p.offset

/-- The place of the first beat in each slot that a list of beat places touches, in their order. -/
def touchedSlots : List (Option RingPlace) → List RingPlace
  | [] => []
  | none :: rest => touchedSlots rest
  | some p :: rest =>
    p :: (touchedSlots rest).filter (fun q => decide (¬ (q.stream = p.stream ∧ q.slot = p.slot)))

/-- A write burst that crosses a slot boundary (R89). -/
def State.spanBurst (s : State) (source : SourceId) (address : BitVec 36) (length : Nat) : State :=
  (touchedSlots ((burstAddresses address length).map s.ringPlace)).foldl (State.spanSlot source) s

/-- The frame monitor takes a write as the path unit shows it (R118). -/
def State.showFrames (s : State) (w : WriteRequest) : State × Option Kept :=
  match s.ringClass w.address w.beats.length with
  | .outside => (s, none)
  | .ring place => s.slotBurst place w.source w.beats
  | .span => (s.spanBurst w.source w.address w.beats.length, none)

/-- Memory's OKAY to a kept burst: the record becomes READY when it stands at its last payload beat with the kept
generation and no other burst kept for it is unanswered (R83). -/
def State.frameOkay (s : State) (kept : Kept) (othersUnanswered : Bool) : State :=
  let f := s.frame kept.stream kept.slot
  match f.state with
  | .filling writer fill h =>
    if fill = 4 + h.payloadBeats ∧ f.generation = kept.generation ∧ othersUnanswered = false then
      s.setFrame kept.stream kept.slot { state := .ready writer h, generation := f.generation + 1 }
    else s
  | .vacant => s
  | .header _ _ _ => s
  | .ready _ _ => s
  | .broken _ _ _ => s

/-- Memory's SLVERR to a kept burst: a HEADER or FILLING record with the kept generation breaks MEMORY_ERROR, with
the fill counter at the answer (R78, R88). -/
def State.frameError (s : State) (kept : Kept) (source : SourceId) : State :=
  let f := s.frame kept.stream kept.slot
  match f.state.fill with
  | some fill =>
    if f.generation = kept.generation then s.breakSlot kept.stream kept.slot .memoryError source fill else s
  | none => s

/-- A record at the reset notice (R93). -/
def Frame.reset (f : Frame) : Frame := { state := .vacant, generation := f.generation + 1 }

/-- The reset notice for a stream (R93). -/
def State.resetNotice (s : State) (stream : Nat) : State :=
  s.setFrames (s.frames.set stream ((s.frames.getD stream []).map Frame.reset))

end Sys2Proof.Machine
end

