-- ==== Sys2Proof/Machine/Intake.lean ====
section
/-! DEFINITION. The intake unit: cell writes, commits and the queue (R130 to R133), the verifier (R134 to R138), its
dispatch and its records (R139 to R141), and its part of a trip (R142). -/

namespace Sys2Proof.Machine

def State.setCommits (s : State) (v : List PendingCommit) : State := s.setIntake { s.intake with commits := v }
def State.setQueue (s : State) (v : List QueueEntry) : State := s.setIntake { s.intake with queue := v }
def State.setVerifier (s : State) (v : Verifier) : State := s.setIntake { s.intake with verifier := v }

/-- A parcel is refused: one PARCEL_REFUSED record (R141). -/
def State.refuseParcel (s : State) (cause : RefusalCause) (fields : Captured) (cell : Nat) (index : BitVec 16) :
    State :=
  s.handOver (s.parcelRefusedRecord cause fields cell index)

/-! ## The verifier's ends and beginnings -/

/-- The cell under verification (7.3). -/
def Verifier.cell : Verifier → Option Nat
  | .idle => none
  | .reading cell _ _ => some cell
  | .checking cell _ => some cell
  | .withOwner _ _ => none
  | .draining => none

/-- The parcel number, kind and length by which a verification's records name it: as read once beat 0 has been
read, as captured before (R141). -/
def readFields (captured : Captured) : List Beat → Captured
  | [] => captured
  | head :: _ => capturedFields head

/-- An IDLE verifier takes the head entry and hands its first read to the internal requester (R134, R135). -/
def State.takeHead (s : State) : State :=
  match s.intake.verifier, s.intake.queue with
  | .idle, e :: rest =>
    (s.setIntake { s.intake with queue := rest, verifier := .reading e.cell e.fields [] }).handInternal
      (.verifierRead e.cell 0 16)
  | _, _ => s

/-- A verification ends: the buffer is zeroed and the verifier is IDLE (R134). -/
def State.endVerification (s : State) : State := s.setVerifier .idle

/-- A read of the verifier (R127). -/
def InternalRequest.ofVerifier (r : InternalRequest) : Bool := !r.kind.ofReport

/-- A read still waiting at the internal requester is withdrawn, and the verifier is DRAINING if its read is at
memory and IDLE otherwise (R134). R126 and R127 do not say what then becomes of the arbiter's count of server-side
grants: DESIGN CHOICE (log 45), it goes on for a report write that still waits, and where none does it starts from 0 with
the next request handed over, be that the verifier's next read in this very act. -/
def State.stopReading (s : State) : State :=
  if s.internal.atMemory.any InternalRequest.ofVerifier then s.setVerifier .draining
  else
    (s.setInternal { s.internal with waiting := s.internal.waiting.filter (fun r => r.kind.ofReport) }).setVerifier
      .idle

/-- A cell write or a trip ends the verification in READING or CHECKING, refused with a cause (R134). -/
def State.abandonVerification (s : State) (cause : RefusalCause) : State :=
  match s.intake.verifier with
  | .reading cell captured buffer => (s.refuseParcel cause (readFields captured buffer) cell noIndex).stopReading
  | .checking cell buffer =>
    (s.refuseParcel cause (capturedFields (headBeat buffer)) cell noIndex).endVerification
  | .idle => s
  | .withOwner _ _ => s
  | .draining => s

/-! ## Cell writes (R131) -/

/-- A list's entries without its repetitions, in the order of their first places. -/
def firstPlaces : List Nat → List Nat
  | [] => []
  | n :: rest => n :: (firstPlaces rest).filter (fun m => decide (m ≠ n))

/-- The cells that the beats of a burst lie in (R118, R130). -/
def State.cellsOf (s : State) (beats : List (Nat × WriteBeat)) : List Nat :=
  firstPlaces (beats.filterMap (fun b => s.cellAt b.1))

/-- One cell at a cell write: its queue entry, its verification and its pending commit are torn (R131). -/
def State.tearCell (s : State) (cell : Nat) : State :=
  let queued := s.intake.queue.filter (fun e => decide (e.cell = cell))
  let s := queued.foldl (fun s e => s.refuseParcel .torn e.fields cell noIndex)
    (s.setQueue (s.intake.queue.filter (fun e => decide (e.cell ≠ cell))))
  let s := if s.intake.verifier.cell = some cell then s.abandonVerification .torn else s
  let waiting := s.intake.commits.filter (fun c => decide (c.cell = cell))
  waiting.foldl (fun s c => s.refuseParcel .torn c.fields cell noIndex)
    (s.setCommits (s.intake.commits.filter (fun c => decide (c.cell ≠ cell))))

/-- The pending commit a beat makes: that of beat 0 of a cell with all 16 strobes set (R130). -/
def State.commitAt (s : State) (tag : Nat) (source : SourceId) (b : Nat × WriteBeat) : Option PendingCommit :=
  match s.cellAt b.1 with
  | some cell =>
    if s.isCellStart b.1 ∧ isFull b.2 then
      some { cell := cell, tag := tag, source := source, fields := capturedFields b.2.data, okay := false }
    else none
  | none => none

/-- The pending commit a burst carries: at most one, since a burst carries beat 0 of at most one cell (R130). -/
def State.commitOf (s : State) (tag : Nat) (source : SourceId) (beats : List (Nat × WriteBeat)) :
    Option PendingCommit :=
  beats.findSome? (s.commitAt tag source)

/-- The intake unit takes a write as the path unit shows it: it tears every cell the burst writes, then keeps the
commit the burst carries (R130, R131). Of two cells that one burst tears, R131 orders the TORN records in no way:
DESIGN CHOICE (log 35), they come in the ascending order of the burst's beats. -/
def State.showIntake (s : State) (tag : Nat) (source : SourceId) (beats : List (Nat × WriteBeat)) : State :=
  let torn := (s.cellsOf (beats.filter (fun b => !isEmptyBeat b.2))).foldl State.tearCell s
  let kept := match s.commitOf tag source beats with
    | some c => torn.setCommits (torn.intake.commits ++ [c])
    | none => torn
  kept.takeHead

/-! ## Commits and the queue (R130, R133) -/

/-- A commit is taken: its entry joins the queue's tail, or it is refused BUSY (R133). -/
def State.takeCommit (s : State) (c : PendingCommit) : State :=
  if s.intake.queue.length < Config.queuePlaces then
    (s.setQueue (s.intake.queue ++ [{ cell := c.cell, fields := c.fields }])).takeHead
  else s.refuseParcel .busy c.fields c.cell noIndex

/-- An unanswered write burst of a source that touches a cell and was accepted before a given one (R130). -/
def Entry.delays (c : PendingCommit) (e : Entry) : Bool :=
  match e.kind with
  | .write info =>
    decide (e.source = c.source ∧ e.tag < c.tag ∧ e.state ≠ .composed) && info.cells.contains c.cell
  | .span => false
  | .passThrough => false
  | .cipher _ => false

/-- A pending commit can be taken: its burst was answered OKAY, and so was or is every earlier write of its source
into the cell answered (R130). -/
def State.commitReady (s : State) (c : PendingCommit) : Bool :=
  c.okay && !(s.path.entries.any (Entry.delays c))

/-- Memory's answer to a write burst that touched a cell (R130). Of several commits that one answer lets be taken R130 and
R133 name no order: DESIGN CHOICE (log 43), they are taken in the order in which they were shown. -/
def State.answerIntake (s : State) (tag : Nat) (response : Response) : State :=
  let commits := match response with
    | .okay => s.intake.commits.map (fun (c : PendingCommit) => if c.tag = tag then { c with okay := true } else c)
    | .slverr => s.intake.commits.filter (fun (c : PendingCommit) => decide (c.tag ≠ tag))
  let released := commits.filter s.commitReady
  released.foldl State.takeCommit (s.setCommits (commits.filter (fun c => !s.commitReady c)))

/-! ## The verifier's reading (R135, R136) -/

/-- The lengths admitted for a kind: its form, with its least and greatest n (R136). -/
def ParcelKind.admits : ParcelKind → Nat → Bool
  | .grant, length => decide (96 ≤ length ∧ length ≤ 1024 ∧ (length - 64) % 32 = 0)
  | .revoke, length => decide (64 ≤ length ∧ length ≤ 1008 ∧ (length - 48) % 16 = 0)
  | .plan, length => decide (80 ≤ length ∧ length ≤ 320 ∧ (length - 64) % 16 = 0)
  | .time, length => decide (length = 48)
  | .tripTest, length => decide (length = 48)

/-- Checks 1 to 3 on beat 0 as read (R136). -/
def State.headerCheck (s : State) (head : Beat) : Option RefusalCause :=
  let fields := capturedFields head
  let length := fields.length.toNat
  if head.extractLsb' 0 16 ≠ 0x7C3E ∨ beatByte head 2 ≠ 1 then some .format
  else match parcelKind fields.kind with
    | none => some .format
    | some kind =>
      if length < 48 ∨ 1024 < length ∨ length % 16 ≠ 0 ∨ kind.admits length = false then some .length
      else if targetDevice head ≠ s.fuses.fullId then some .wrongDevice
      else none

/-- The number of beats of the parcel in a buffer whose beat 0 has been read. -/
def parcelBeats (buffer : List Beat) : Nat := (capturedFields (headBeat buffer)).length.toNat / 16

/-- What follows a burst read OKAY whose header is good: CHECKING with the beats beyond the parcel's length
discarded, or the next burst, cut short at the parcel's last beat (R135). -/
def State.continueReading (s : State) (cell : Nat) (captured : Captured) (buffer : List Beat) : State :=
  let total := parcelBeats buffer
  if total ≤ buffer.length then s.setVerifier (.checking cell (buffer.take total))
  else
    (s.setVerifier (.reading cell captured buffer)).handInternal
      (.verifierRead cell buffer.length (min 16 (total - buffer.length)))

/-- A verifier read answered OKAY on every beat, in READING (R135). -/
def State.takeBurst (s : State) (cell : Nat) (captured : Captured) (buffer : List Beat) (beats : List Beat) :
    State :=
  let filled := buffer ++ beats
  match (if buffer = [] then s.headerCheck (headBeat filled) else none) with
  | some cause => (s.refuseParcel cause (readFields captured filled) cell noIndex).endVerification.takeHead
  | none => s.continueReading cell captured filled

/-- The verifier takes the answer to its read (R134, R135). -/
def State.takeReadAnswer (s : State) (beats : List ReadBeat) : State :=
  match s.intake.verifier with
  | .reading cell captured buffer =>
    if beats.any (fun b => decide (b.response = .slverr)) then
      (s.refuseParcel .memoryError (readFields captured buffer) cell noIndex).endVerification.takeHead
    else s.takeBurst cell captured buffer (beats.map (fun b => b.data))
  | .draining => s.endVerification.takeHead
  | .idle => s
  | .checking _ _ => s
  | .withOwner _ _ => s

/-! ## The tag check and dispatch (R137 to R139) -/

/-- The computed tag equals the parcel's last 16 bytes (R137). -/
def tagMatches (buffer : List Beat) : Bool :=
  decide (Config.messageAuthentication Config.deviceRootKey (bytesOf buffer.dropLast) = buffer.getLastD 0)

/-- The parcel is a TIME parcel with RESYNC and CLEAR_TRIP (R138). -/
def isClearingParcel (buffer : List Beat) : Bool :=
  decide (parcelKind (capturedFields (headBeat buffer)).kind = some .time)
    && (timeBody (bytesOf buffer)).resync && (timeBody (bytesOf buffer)).clearTrip

/-- CHECKING completes: checks 4 and 5, and dispatch (R137 to R139). -/
def State.completeTagCheck (s : State) : State :=
  match s.intake.verifier with
  | .checking cell buffer =>
    let fields := capturedFields (headBeat buffer)
    if tagMatches buffer = false then (s.refuseParcel .tag fields cell noIndex).endVerification.takeHead
    else if s.isTripped ∧ isClearingParcel buffer = false then
      (s.refuseParcel .tripped fields cell noIndex).endVerification.takeHead
    else s.setVerifier (.withOwner cell buffer)
  | .idle => s
  | .reading _ _ _ => s
  | .withOwner _ _ => s
  | .draining => s

/-! ## The owner's answer (R140, R141) -/

/-- What an owner reads of the parcel handed to it. -/
structure Dispatched where
  cell   : Nat
  fields : Captured
  bytes  : List Byte
  deriving DecidableEq, Repr

/-- The parcel with the owner of a kind, while the main domain is up (R139). -/
def State.dispatched (s : State) (kind : ParcelKind) : Option Dispatched :=
  match s.intake.verifier with
  | .withOwner cell buffer =>
    if s.mainUp ∧ parcelKind (capturedFields (headBeat buffer)).kind = some kind then
      some { cell := cell, fields := capturedFields (headBeat buffer), bytes := bytesOf buffer }
    else none
  | .idle => none
  | .reading _ _ _ => none
  | .checking _ _ => none
  | .draining => none

/-- The owner answers TAKEN with three values (R140). -/
def State.answerTaken (s : State) (p : Dispatched) (data : BitVec 32 × BitVec 32 × BitVec 32) : State :=
  (s.handOver (s.parcelTakenRecord p.fields.kind p.fields.number p.cell data)).endVerification.takeHead

/-- The owner answers REFUSED with a cause and an entry index (R141). -/
def State.answerRefused (s : State) (p : Dispatched) (cause : RefusalCause) (index : BitVec 16) : State :=
  (s.refuseParcel cause p.fields p.cell index).endVerification.takeHead

/-! ## A trip (R142) -/

/-- A parcel of kind TIME, which a trip does not refuse (R142). -/
def Captured.isTime (f : Captured) : Bool := decide (parcelKind f.kind = some .time)

/-- The kind by which a trip knows the parcel under verification: as read once beat 0 has been read, as captured
before (R142). -/
def Verifier.isTime : Verifier → Bool
  | .reading _ captured buffer => (readFields captured buffer).isTime
  | .checking _ buffer => (capturedFields (headBeat buffer)).isTime
  | .idle => false
  | .withOwner _ _ => false
  | .draining => false

/-- The intake unit's part of a trip: the parcel under verification, then the queue (R142). -/
def State.tripIntake (s : State) : State :=
  let s := if s.intake.verifier.isTime then s else s.abandonVerification .tripped
  let refused := s.intake.queue.filter (fun e => !e.fields.isTime)
  (refused.foldl (fun s e => s.refuseParcel .tripped e.fields e.cell noIndex)
    (s.setQueue (s.intake.queue.filter (fun e => e.fields.isTime)))).takeHead

end Sys2Proof.Machine
end

