-- ==== Sys2Proof/Machine/Path.lean ====
section
/-! DEFINITION. The path unit: trackers (R122 to R125), acceptance and the heads that wait (R117 to R119), memory's
answers (R118, R120, R121), the return of responses (R106, R120), and the memory-port arbiter's choice (R126). -/

namespace Sys2Proof.Machine

/-! ## Entries -/

def State.setEntries (s : State) (v : List Entry) : State := s.setPath { s.path with entries := v }

/-- The entry under a tag (R115). -/
def State.entry (s : State) (tag : Nat) : Option Entry := s.path.entries.find? (fun e => decide (e.tag = tag))

/-- Changes the entry under a tag. -/
def State.editEntry (s : State) (tag : Nat) (f : Entry → Entry) : State :=
  s.setEntries (s.path.entries.map (fun e => if e.tag = tag then f e else e))

/-- The tracker an entry holds (R123). -/
def EntryKind.tracker : EntryKind → Option Tracker
  | .span => none
  | .passThrough => none
  | .cipher t => some t
  | .write _ => none

/-- Changes the tracker an entry holds. -/
def EntryKind.editTracker (f : Tracker → Tracker) : EntryKind → EntryKind
  | .span => .span
  | .passThrough => .passThrough
  | .cipher t => .cipher (f t)
  | .write info => .write info

/-- The number of items of an entry's whole response: its beats, or one write answer (R120). -/
def Entry.responseLength (e : Entry) : Nat :=
  match e.kind with
  | .write _ => 1
  | .span => e.length
  | .passThrough => e.length
  | .cipher _ => e.length

/-! ## Trackers (R122) -/

/-- The trackers in use. -/
def State.trackers (s : State) : List Tracker := s.path.entries.filterMap (fun e => e.kind.tracker)

/-- In use by a stream. -/
def State.inUseBy (s : State) (stream : Nat) : Nat := s.trackers.countP (fun t => decide (t.stream = stream))

/-- Reserved for a stream. -/
def State.reservedFor (s : State) (stream : Nat) : Nat := (s.stream stream).reserved

/-- Borrowed: the sum over all streams of the trackers each holds beyond its reserved count. -/
def State.borrowed (s : State) : Nat :=
  ((List.range Config.streams).map (fun i => s.inUseBy i - s.reservedFor i)).sum

/-- The sum of the reserved counts. -/
def State.reservedSum (s : State) : Nat := (s.plan.streams.map (fun t => t.reserved)).sum

/-- The free pool: 48 less the sum of the reserved counts. -/
def State.freePool (s : State) : Nat := Config.trackers - s.reservedSum

/-- A tracker can be taken for a read of a stream (R122, R125). -/
def State.canTakeTracker (s : State) (stream : Nat) : Bool :=
  decide (s.trackers.length < Config.trackers
    ∧ (s.inUseBy stream < s.reservedFor stream ∨ s.borrowed < s.freePool))

/-! ## Classification and acceptance -/

/-- How a read is handled (R117). -/
inductive ReadClass where
  | span
  | passThrough
  | cipher (place : RingPlace)
  deriving DecidableEq, Repr

/-- R117. -/
def State.readClass (s : State) (r : ReadRequest) : ReadClass :=
  match s.ringClass r.address r.length with
  | .outside => .passThrough
  | .span => .span
  | .ring p => if (s.stream p.stream).source = r.source then .cipher p else .passThrough

/-- The source of a request (R114). -/
def requestSource : Request → SourceId
  | .read r => r.source
  | .write w => w.source

/-- A head can be accepted: a list place is free and, for a cipher-path read, a tracker can be taken (R119). -/
def State.acceptable (s : State) (request : Request) : Bool :=
  decide (s.path.entries.length < Config.listPlaces) && match request with
  | .write _ => true
  | .read r => match s.readClass r with
    | .span => true
    | .passThrough => true
    | .cipher p => s.canTakeTracker p.stream

/-- An accepted request joins the lists under the next tag (R115, R119). -/
def State.joinLists (s : State) (e : Nat → Entry) : State :=
  s.setPath { s.path with entries := s.path.entries ++ [e s.path.nextTag], nextTag := s.path.nextTag + 1 }

/-- The tracker of a cipher-path read as its acceptance sets it (R123, R91). -/
def State.newTracker (s : State) (r : ReadRequest) (p : RingPlace) : Tracker :=
  { source := r.source, stream := p.stream, slot := p.slot, firstOffset := p.offset, count := r.length
    slotGeneration := (s.frame p.stream p.slot).generation
    streamGeneration := (s.stream p.stream).generation
    state := .awaitingMemory, inputs := none }

/-- A response of SLVERR and the fill pattern on every beat (R98, R121). -/
def State.errorResponse (s : State) (length : Nat) : List OutBeat :=
  List.replicate length { data := s.plan.fill, response := .slverr, plain := false }

/-- A read is accepted (R117, R121). -/
def State.acceptRead (s : State) (r : ReadRequest) : State :=
  match s.readClass r with
  | .span => s.joinLists (fun tag =>
      { tag := tag, source := r.source, address := r.address, length := r.length, attributes := r.attributes
        kind := .span, state := .composed, response := s.errorResponse r.length, returned := 0 })
  | .passThrough => s.joinLists (fun tag =>
      { tag := tag, source := r.source, address := r.address, length := r.length, attributes := r.attributes
        kind := .passThrough, state := .issueWait, response := [], returned := 0 })
  | .cipher p => s.joinLists (fun tag =>
      { tag := tag, source := r.source, address := r.address, length := r.length, attributes := r.attributes
        kind := .cipher (s.newTracker r p), state := .issueWait, response := [], returned := 0 })

/-- The consumer value a write holds pending: that of its consumer beat, when the strobes of bytes 0 and 1 are set
(R184). -/
def State.consumerValue (s : State) : List (Nat × WriteBeat) → Option (BitVec 16)
  | [] => none
  | (address, b) :: rest =>
    if s.isConsumerBeat address then
      if b.strobes.getLsbD 0 ∧ b.strobes.getLsbD 1 then some (b.data.extractLsb' 0 16) else none
    else s.consumerValue rest

/-- A write is accepted: it is shown to the frame monitor, joins its list with what the watchers keep, and is shown
to the intake unit (R118). -/
def State.acceptWrite (s : State) (w : WriteRequest) : State :=
  let beats := beatsAt w.address w.beats
  let (shown, kept) := s.showFrames w
  let info : WriteInfo :=
    { beats := w.beats, kept := kept, cells := s.cellsOf beats, consumer := s.consumerValue beats }
  (shown.joinLists (fun tag =>
    { tag := tag, source := w.source, address := w.address, length := w.beats.length, attributes := w.attributes
      kind := .write info, state := .issueWait, response := [], returned := 0 })).showIntake s.path.nextTag w.source beats

/-- A request is accepted. -/
def State.accept (s : State) : Request → State
  | .read r => s.acceptRead r
  | .write w => s.acceptWrite w

/-! ## The heads that wait (R119) -/

/-- Ranks a head: the one that has waited longer first, of two that began together the lower source ID. -/
def Head.before (a b : Head) : Bool :=
  decide (a.since < b.since ∨ (a.since = b.since ∧ requestSource a.request < requestSource b.request))

/-- Puts a head in its place of the ranking. -/
def placeHead (h : Head) : List Head → List Head
  | [] => [h]
  | g :: rest => if h.before g then h :: g :: rest else g :: placeHead h rest

/-- A head begins waiting. -/
def State.addHead (s : State) (request : Request) : State :=
  s.setPath { s.path with heads := placeHead { request := request, since := s.path.epoch } s.path.heads }

/-- The request of a source that stands first behind its head, and the rest. -/
def firstBehind (source : SourceId) : List Request → Option (Request × List Request)
  | [] => none
  | r :: rest =>
    if requestSource r = source then some (r, rest)
    else match firstBehind source rest with
      | none => none
      | some (q, others) => some (q, r :: others)

/-- A source's head has been accepted: its next request, if any, is its head. -/
def State.promote (s : State) (source : SourceId) : State :=
  match firstBehind source s.path.behind with
  | none => s
  | some (r, rest) => (s.setPath { s.path with behind := rest }).addHead r

/-- A waiting head is accepted, and its source's next request becomes its head. -/
def State.acceptHead (s : State) (h : Head) : State :=
  let source := requestSource h.request
  let others := s.path.heads.filter (fun g => decide (requestSource g.request ≠ source))
  ((s.setPath { s.path with heads := others }).accept h.request).promote source

/-- Accepts waiting heads, each time the first in rank that can be accepted, at most a number of times. -/
def State.acceptHeads : Nat → State → State
  | 0, s => s
  | n + 1, s =>
    match s.path.heads.find? (fun h => s.acceptable h.request) with
    | none => s
    | some h => State.acceptHeads n (s.acceptHead h)

/-- A later date for the heads that begin waiting. -/
def State.nextEpoch (s : State) : State := s.setPath { s.path with epoch := s.path.epoch + 1 }

/-- Every waiting head is tried again (R119). -/
def State.retryHeads (s : State) : State :=
  (State.acceptHeads (s.path.heads.length + s.path.behind.length) s).nextEpoch

/-- A source has a head that waits. -/
def State.waits (s : State) (source : SourceId) : Bool :=
  s.path.heads.any (fun h => decide (requestSource h.request = source))

/-- The server port has received a request: behind its source's waiting head, or its source's head, accepted at
once or waiting (R114, R119). -/
def State.receive (s : State) (request : Request) : State :=
  (if s.waits (requestSource request) then s.setPath { s.path with behind := s.path.behind ++ [request] }
   else if s.acceptable request then s.accept request
   else s.addHead request).nextEpoch

/-! ## Memory's answers -/

/-- A beat passed through as memory answered it (R120, R121). -/
def passBeat (b : ReadBeat) : OutBeat := { data := b.data, response := b.response, plain := false }

/-- Memory answers the next beats of a pass-through read (R120). -/
def State.passThroughData (s : State) (tag : Nat) (beats : List ReadBeat) : State :=
  match s.entry tag with
  | some e =>
    if e.kind = .passThrough ∧ e.state = .atMemory ∧ e.response.length + beats.length ≤ e.length then
      s.editEntry tag (fun e =>
        { e with response := e.response ++ beats.map passBeat
                 state := if e.response.length + beats.length = e.length then .composed else .atMemory })
    else s
  | none => s

/-- Another burst kept for the same frame is unanswered (R83). -/
def Entry.keepsFrame (kept : Kept) (tag : Nat) (e : Entry) : Bool :=
  match e.kind with
  | .write info => decide (info.kept = some kept ∧ e.tag ≠ tag ∧ e.state ≠ .composed)
  | .span => false
  | .passThrough => false
  | .cipher _ => false

/-- The frame monitor takes memory's answer to a write it kept (R83, R88). -/
def State.answerFrames (s : State) (e : Entry) (kept : Option Kept) (response : Response) : State :=
  match kept with
  | none => s
  | some k =>
    match response with
    | .okay => s.frameOkay k (s.path.entries.any (Entry.keepsFrame k e.tag))
    | .slverr => s.frameError k e.source

/-- The report writer takes memory's answer to a write of the consumer beat (R184). -/
def State.answerConsumer (s : State) (value : Option (BitVec 16)) (response : Response) : State :=
  match value with
  | none => s
  | some v =>
    if response = .okay ∧ v.toNat < Config.ringSlots then s.setReport { s.report with consumer := v.toNat } else s

/-- Memory answers a server write burst (R118). -/
def State.writeAnswered (s : State) (tag : Nat) (response : Response) : State :=
  match s.entry tag with
  | none => s
  | some e =>
    match e.kind with
    | .write info =>
      if e.state = .atMemory then
        let composed := s.editEntry tag (fun e =>
          { e with state := .composed, response := [{ data := 0, response := response, plain := false }] })
        let shown := (composed.answerFrames e info.kept response).answerConsumer info.consumer response
        if info.cells = [] then shown else shown.answerIntake tag response
      else s
    | .span => s
    | .passThrough => s
    | .cipher _ => s

/-! ## The return of responses (R106, R120) -/

/-- The items of a response that can be returned: all of a composed one, and of a pass-through read what memory
has answered. -/
def Entry.available (e : Entry) : Nat :=
  match e.state with
  | .composed => e.response.length - e.returned
  | .atMemory => if e.kind = .passThrough then e.response.length - e.returned else 0
  | .issueWait => 0

/-- What the server port carries of a response, up to n items from where it stands. -/
def Entry.carried (e : Entry) (n : Nat) : PortResponse :=
  let items := (e.response.drop e.returned).take (min n e.available)
  { source := e.source, tag := e.tag, beats := items.map (fun b => (b.data, b.response))
    last := decide (e.returned + min n e.available = e.responseLength) }

/-- The server port carries up to n items of a source's oldest response; with its last item the request leaves its
list, its tracker is freed, and the waiting heads are tried again (R106, R119, R120, R123). -/
def State.returnResponse (s : State) (source : SourceId) (n : Nat) : State :=
  match s.path.entries.find? (fun e => decide (e.source = source)) with
  | none => s
  | some e =>
    if e.available = 0 then s
    else
      let carried := e.carried n
      let s := s.setPath { s.path with returned := some carried }
      if carried.last then
        (s.setEntries (s.path.entries.filter (fun f => decide (f.tag ≠ e.tag)))).retryHeads
      else
        let count := min n e.available
        s.editEntry e.tag (fun f => { f with returned := f.returned + count })

/-! ## The memory-port arbiter (R126) -/

/-- What the arbiter grants the memory port to. -/
inductive PortChoice where
  | server (e : Entry)
  | internal (r : InternalRequest)
  deriving DecidableEq, Repr

/-- The server-side request accepted earliest of those in ISSUE_WAIT. -/
def State.oldestWaiting (s : State) : Option Entry :=
  s.path.entries.find? (fun e => decide (e.state = .issueWait))

/-- The arbiter's choice: the internal requester when no server-side request waits or 16 have been granted since it
began waiting (R126). -/
def State.portChoice (s : State) : Option PortChoice :=
  match s.internal.waiting, s.oldestWaiting with
  | [], none => none
  | [], some e => some (.server e)
  | r :: _, none => some (.internal r)
  | r :: _, some e => if Config.internalTurn ≤ s.internal.grants then some (.internal r) else some (.server e)

/-- What an entry's kind gives the memory port: whether it is a write, and its beats (R115). -/
def EntryKind.portBeats : EntryKind → Bool × List WriteBeat
  | .write info => (true, info.beats)
  | .span => (false, [])
  | .passThrough => (false, [])
  | .cipher _ => (false, [])

/-- The request as the memory port carries it: unchanged, its attributes included (R114, R115). -/
def Entry.portRequest (e : Entry) : PortRequest :=
  { tag := e.tag, write := e.kind.portBeats.1, address := e.address.toNat, length := e.length
    beats := e.kind.portBeats.2, attributes := e.attributes }

/-- A server-side request is issued: AT_MEMORY, and counted while the internal requester waits (R126). -/
def State.issueServer (s : State) (e : Entry) : State :=
  let issued := s.editEntry e.tag (fun f => { f with state := .atMemory })
  (issued.setPath { issued.path with issued := some e.portRequest }).setInternal
    { s.internal with grants := if s.internal.waiting = [] then s.internal.grants else s.internal.grants + 1 }

end Sys2Proof.Machine
end

