-- ==== Sys2Proof/Machine/Cipher.lean ====
section
/-! DEFINITION. The cipher engine: candidates and grants (R103 to R105), a lane's work (R100 to R102), the undecided
burst (R98), and the part of a trip that turns plaintext into fill (R109). -/

namespace Sys2Proof.Machine

/-- A beat composed with data and OKAY (R96). -/
def okayBeat (data : Beat) : OutBeat := { data := data, response := .okay, plain := false }

/-- The state of the tracker an entry holds. -/
def Entry.trackerState (e : Entry) : Option TrackerState := e.kind.tracker.map (fun t => t.state)

/-- The entry's tracker is RETURNING and keeps no lane inputs (R99, R102). -/
def EntryKind.returning (k : EntryKind) : EntryKind :=
  k.editTracker (fun t => { t with state := .returning, inputs := none })

/-- A cipher-path read of n beats answered SLVERR on some beat: undecided, SLVERR and fill on every beat (R98). -/
def State.undecided (s : State) (tag n : Nat) : State :=
  s.editEntry tag (fun e =>
    { e with response := s.errorResponse n, state := .composed, kind := e.kind.returning })

/-! ## Candidates and grants -/

/-- Keeps the first entry of each source (R103). -/
def firstOfSources : List Entry → List Entry
  | [] => []
  | e :: rest => e :: (firstOfSources rest).filter (fun f => decide (f.source ≠ e.source))

/-- The candidates: of each source its oldest DECIDED burst (R103). -/
def State.candidates (s : State) : List Entry :=
  firstOfSources (s.path.entries.filter (fun e => decide (e.trackerState = some .decided)))

/-- The stream a candidate is labelled with: the one its tracker records (R103). -/
def Entry.stream (e : Entry) : Nat :=
  match e.kind.tracker with
  | some t => t.stream
  | none => 0

/-- A stream's place in the order an arbitration mode searches: ROTATING from the stream after the last granted,
FIXED from 0 (R104). -/
def Arbitration.rank (mode : Arbitration) (lastGranted stream : Nat) : Nat :=
  match mode with
  | .rotating => (stream + Config.streams - (lastGranted + 1) % Config.streams) % Config.streams
  | .fixed => stream

/-- Candidate a is granted before candidate b (R104). -/
def candidateBefore (mode : Arbitration) (lastGranted : Nat) (a b : Entry) : Bool :=
  let p := mode.rank lastGranted a.stream
  let q := mode.rank lastGranted b.stream
  decide (p < q ∨ (p = q ∧ a.source < b.source))

/-- The candidate granted among several (R104). -/
def chooseCandidate (mode : Arbitration) (lastGranted : Nat) : List Entry → Option Entry
  | [] => none
  | e :: rest =>
    match chooseCandidate mode lastGranted rest with
    | none => some e
    | some f => if candidateBefore mode lastGranted f e then some f else some e

/-- The PLAIN beats of a burst with their places from a first place on, and their payload beat numbers (R100). -/
def laneBeatsFrom (firstOffset : Nat) : List OutBeat → Nat → List LaneBeat
  | [], _ => []
  | b :: rest, place =>
    if b.plain then
      { place := place, number := BitVec.ofNat 32 (firstOffset + place - 4), ciphertext := b.data }
        :: laneBeatsFrom firstOffset rest (place + 1)
    else laneBeatsFrom firstOffset rest (place + 1)

/-- The lowest-numbered FREE lane, from a first lane number on (R104). -/
def freeLaneFrom : List (Option LaneJob) → Nat → Option Nat
  | [], _ => none
  | none :: _, n => some n
  | some _ :: rest, n => freeLaneFrom rest (n + 1)

/-- The lowest-numbered FREE lane (R104). -/
def Engine.freeLane (e : Engine) : Option Nat := freeLaneFrom e.lanes 0

/-- A candidate is granted a lane, which takes the burst's inputs from its tracker (R99, R100, R104). -/
def State.grantLane (s : State) (lane : Nat) (e : Entry) (t : Tracker) (inputs : LaneInputs) : State :=
  let job : LaneJob :=
    { tag := e.tag, stream := t.stream, key := inputs.key, frameIndex := inputs.frameIndex
      beats := laneBeatsFrom t.firstOffset e.response 0 }
  (s.editEntry e.tag (fun f =>
    { f with kind := f.kind.editTracker (fun t => { t with state := .inLane, inputs := none }) })).setEngine
    { lanes := s.engine.lanes.set lane (some job), lastGranted := t.stream }

/-- The lane arbiter makes one grant, when a lane is FREE and a candidate waits (R104). -/
def State.arbitrateLanes (s : State) : State :=
  match s.engine.freeLane, chooseCandidate s.plan.arbitration s.engine.lastGranted s.candidates with
  | some lane, some e =>
    match e.kind.tracker with
    | some t =>
      match t.inputs with
      | some inputs => s.grantLane lane e t inputs
      | none => s
    | none => s
  | _, _ => s

/-! ## A lane's work -/

/-- The counter block: frame index in bytes 0 to 3, payload beat number in bytes 4 to 7, zero above (R101). -/
def counterBlock (frameIndex number : BitVec 32) : Beat := (number ++ frameIndex).setWidth 128

/-- A beat's plaintext: its ciphertext combined with its keystream block (R101). -/
def plaintext (key : KeyValue) (frameIndex number : BitVec 32) (ciphertext : Beat) : Beat :=
  ciphertext ^^^ Config.blockCipher key (counterBlock frameIndex number)

/-- Puts the plaintext of one beat into a response (R102). -/
def LaneJob.putBeat (job : LaneJob) (response : List OutBeat) (b : LaneBeat) : List OutBeat :=
  response.set b.place
    { data := plaintext job.key job.frameIndex b.number b.ciphertext, response := .okay, plain := true }

/-- A lane completes: the plaintext stands in its burst's tracker, which is RETURNING, and the lane is FREE
(R102). -/
def State.completeLane (s : State) (lane : Nat) : State :=
  match s.engine.lanes.getD lane none with
  | none => s
  | some job =>
    (s.editEntry job.tag (fun e =>
      { e with response := job.beats.foldl job.putBeat e.response, state := .composed
               kind := e.kind.returning })).setEngine
      { s.engine with lanes := s.engine.lanes.set lane none }

/-! ## A trip (R109) -/

/-- The beats of a response from the first not yet returned: those that hold plaintext become fill, in the pattern
of the trip (R109). A CHECK-mode PLAIN beat is not among them: composeBeat gave it the fill pattern of its decision,
and it keeps that pattern where a PLAN changed the pattern since, a case that neither RETURNING row of R109 states.
DESIGN CHOICE, unsafe, log 46. -/
def fillPlain (fill : Beat) (returned : Nat) (response : List OutBeat) : List OutBeat :=
  response.take returned
    ++ (response.drop returned).map (fun b => if b.plain then okayBeat fill else b)

/-- One request of the lists at a trip (R109). -/
def Entry.trip (fill : Beat) (e : Entry) : Entry :=
  match e.trackerState with
  | some .decided =>
    { e with response := fillPlain fill e.returned e.response, state := .composed, kind := e.kind.returning }
  | some .inLane =>
    { e with response := fillPlain fill e.returned e.response, state := .composed, kind := e.kind.returning }
  | some .returning => { e with response := fillPlain fill e.returned e.response }
  | some .awaitingMemory => e
  | none => e

/-- The cipher engine's and path unit's part of a trip (R109). -/
def State.tripCipher (s : State) : State :=
  (s.setEntries (s.path.entries.map (Entry.trip s.plan.fill))).setEngine
    { s.engine with lanes := List.replicate Config.lanes none }

end Sys2Proof.Machine
end

