-- ==== Sys2Proof/Machine/Lanes.lean ====
section
/-! DEFINITION. The meanings of the commands of the cipher engine: LANE_GRANT and LANE_COMPLETE (R102, R104). -/

namespace Sys2Proof.Machine

/-- LANE_GRANT: the lane arbiter grants one candidate the lowest FREE lane (R104). -/
def execLaneGrant (s : State) : Host.Outcome State Fault Refusal :=
  .next (s.mainAct State.arbitrateLanes)

/-- LANE_COMPLETE: a lane's work on its burst ends (R102). -/
def execLaneComplete (lane : Nat) (s : State) : Host.Outcome State Fault Refusal :=
  if lane < Config.lanes then .next (s.mainAct (fun s => s.completeLane lane)) else .refused .illFormed

end Sys2Proof.Machine
end

