-- ==== Sys2Proof/Machine/Revocations.lean ====
section
/-! DEFINITION. The revocation list as a block: its order, lookups, removals, merges and settlements (R145 to R148,
R153, R154, R156). -/

namespace Sys2Proof.Machine

/-- Places an entry after every entry whose retain-until is not later (R145). -/
def placeRevocation (e : Revocation) : List Revocation → List Revocation
  | [] => [e]
  | r :: rest => if r.retainUntil ≤ e.retainUntil then r :: placeRevocation e rest else e :: r :: rest

/-- The entry of a key ID (R145: there is at most one). -/
def findRevocation (id : KeyId) (list : List Revocation) : Option Revocation :=
  list.find? (fun r => decide (r.keyId = id))

/-- The revision a GRANT lookup is answered with: that of a LISTED entry, none of a PENDING one (R148). -/
def listedRevision (id : KeyId) (list : List Revocation) : Option Revision :=
  match findRevocation id list with
  | some r => if r.condition = .listed then some r.revision else none
  | none => none

/-- A LISTED entry whose retain-until is at or before a reading (R147). -/
def Revocation.passed (now : Nat) (r : Revocation) : Bool :=
  decide (r.condition = .listed ∧ r.retainUntil ≤ now)

/-- Removes every LISTED entry that has passed (R147). -/
def removePassed (now : Nat) (list : List Revocation) : List Revocation :=
  list.filter (fun r => !r.passed now)

/-- One entry at the settlement of a key ID (R156): a PENDING entry of it becomes LISTED, or is removed when its
retain-until is not later than the reading. -/
def Revocation.settled (now : Nat) (id : KeyId) (r : Revocation) : Option Revocation :=
  if r.keyId = id ∧ r.condition = .pending then
    if now < r.retainUntil then some { r with condition := .listed } else none
  else some r

/-- The settlement of a key ID, in place (R156). -/
def settleRevocation (now : Nat) (id : KeyId) (list : List Revocation) : List Revocation :=
  list.filterMap (Revocation.settled now id)

/-- The settlement of every PENDING entry at a reset, in place (R146). -/
def settleAllRevocations (now : Nat) (list : List Revocation) : List Revocation :=
  list.filterMap (fun r => r.settled now r.keyId)

/-- The merge of a REVOKE entry into an existing entry (R153). -/
def Revocation.merge (old new : Revocation) : Revocation :=
  { keyId := old.keyId
    revision := if old.revision < new.revision then new.revision else old.revision
    retainUntil := max old.retainUntil new.retainUntil
    condition := new.condition }

/-- Brings a REVOKE entry, with its computed retain-until and condition, into the list (R153, R154). The second
component is true when the entry needed a place and found none. -/
def bringRevocation (now : Nat) (e : Revocation) (list : List Revocation) : List Revocation × Bool :=
  match findRevocation e.keyId list with
  | some old =>
    let merged := old.merge e
    if merged.retainUntil = old.retainUntil then
      (list.map (fun r => if r.keyId = e.keyId then merged else r), false)
    else (placeRevocation merged (list.filter (fun r => decide (r.keyId ≠ e.keyId))), false)
  | none =>
    if e.retainUntil ≤ now then (list, false)
    else
      let kept := removePassed now list
      if kept.length < Config.revocationPlaces then (placeRevocation e kept, false) else (kept, true)

/-- The list takes an announcement (R147). -/
def State.revocationsAnnounced (s : State) : State :=
  s.setRevocations (removePassed s.nowSeconds s.revocations)

/-- The PENDING entry of a key ID is settled against the reading now (R156). -/
def State.settle (s : State) (id : KeyId) : State :=
  s.setRevocations (settleRevocation s.nowSeconds id s.revocations)

end Sys2Proof.Machine
end

