-- ==== Sys2Proof/Machine/KeyTable.lean ====
section
/-! DEFINITION. The key table's searches and the acts on one slot that several families share: emptying a slot,
counting slots, the generation, freeing a WITHDRAWN slot at a lease end (R3 to R5, R27). -/

namespace Sys2Proof.Machine

/-- Searches the non-EMPTY slots for a key ID, from a first slot number on (R3). -/
def findKeyFrom (id : KeyId) : List (Option Key) → Nat → Option (Nat × Key)
  | [], _ => none
  | none :: rest, n => findKeyFrom id rest (n + 1)
  | some k :: rest, n => if k.keyId = id then some (n, k) else findKeyFrom id rest (n + 1)

/-- The slot number and record of the key with an ID (R3). -/
def State.findKey (s : State) (id : KeyId) : Option (Nat × Key) := findKeyFrom id s.keys.slots 0

/-- The lowest-numbered EMPTY slot, from a first slot number on (R16). -/
def lowestEmptyFrom : List (Option Key) → Nat → Option Nat
  | [], _ => none
  | none :: _, n => some n
  | some _ :: rest, n => lowestEmptyFrom rest (n + 1)

/-- The lowest-numbered EMPTY slot (R16). -/
def State.lowestEmpty (s : State) : Option Nat := lowestEmptyFrom s.keys.slots 0

/-- The number of EMPTY slots (R15). -/
def State.emptySlots (s : State) : Nat := s.keys.slots.countP (fun k => k.isNone)

/-- The number of non-EMPTY slots (R3). -/
def State.slotsInUse (s : State) : Nat := s.keys.slots.countP (fun k => k.isSome)

/-- The key value a slot holds: zero when it is EMPTY (R1, R5). -/
def slotValue : Option Key → KeyValue
  | none => 0
  | some k => k.value

/-- Increments the key-table generation, from 65535 to 0 (R4). -/
def State.bumpGeneration (s : State) : State :=
  s.setKeys { s.keys with generation := s.keys.generation + 1 }

/-- A slot becomes EMPTY: its key value and every field are gone, and the PENDING entry of a WITHDRAWN slot is
settled in the same act (R5, R156). -/
def State.emptySlot (s : State) (slot : Nat) : State :=
  match s.key slot with
  | none => s
  | some k =>
    if k.state = .withdrawn then (s.setKey slot none).settle k.keyId else s.setKey slot none

/-- Writes a key's record into a slot, with an edit (R16, R17, R21, R22, R25, R26). -/
def State.editKey (s : State) (slot : Nat) (f : Key → Key) : State :=
  match s.key slot with
  | none => s
  | some k => s.setKey slot (some (f k))

/-- A RUNNING, OVERRUN or HELD lease lists a key ID (R51). -/
def Lease.lists (id : KeyId) : Lease → Bool
  | .idle => false
  | .refused _ _ => false
  | .serving _ show_ => show_.keys.contains id

/-- Some RUNNING, OVERRUN or HELD lease lists a key ID (R51). -/
def State.anyLists (s : State) (id : KeyId) : Bool := s.leases.any (fun l => l.lists id)

/-- The key table takes one key ID of an ended lease's list: a WITHDRAWN slot that no lease still lists is freed
with cause LAST_LEASE_ENDED (R27). -/
def State.handBack (s : State) (id : KeyId) : State :=
  match s.findKey id with
  | none => s
  | some (slot, k) =>
    if k.state = .withdrawn ∧ s.anyLists id = false then
      (s.handOver (s.keyFreedRecord .lastLeaseEnded slot k)).emptySlot slot
    else s

end Sys2Proof.Machine
end

