-- ==== Sys2Proof/Machine/Leases.lean ====
section
/-! DEFINITION. The lease unit's ends, notices and announcements (R67 to R74). Its decisions are in
Machine/Decisions.lean. -/

namespace Sys2Proof.Machine

/-- RUNNING, OVERRUN or HELD: the stream is busy (R51). -/
def Lease.busy : Lease → Bool
  | .idle => false
  | .refused _ _ => false
  | .serving _ _ => true

/-- The number of non-IDLE leases (R51). -/
def State.nonIdleLeases (s : State) : Nat := s.leases.countP (fun l => decide (l ≠ .idle))

/-- The number of busy streams (R175). -/
def State.busyLeases (s : State) : Nat := s.leases.countP (fun l => l.busy)

/-- A lease ends (R74): its LEASE_ENDED record, its return to IDLE, and but for cause TRIPPED the hand-back of its
key list in list order (R27). A lease that is not RUNNING, OVERRUN or HELD is left as it is. R27 lets KEY_FREED follow
LEASE_ENDED at any distance: DESIGN CHOICE (log 44), the key table takes each hand-back at once, before another lease
ends. -/
def State.endLease (s : State) (stream : Nat) (cause : EndCause) : State :=
  match s.lease stream with
  | .serving _ show_ =>
    let ended := (s.handOver (s.leaseEndedRecord stream cause show_)).setLease stream .idle
    if cause = .tripped then ended else show_.keys.foldl State.handBack ended
  | .idle => s
  | .refused _ _ => s

/-- A REFUSED lease goes to IDLE, without a record (R50). -/
def State.dropRefused (s : State) (stream : Nat) : State :=
  match s.lease stream with
  | .refused _ _ => s.setLease stream .idle
  | .idle => s
  | .serving _ _ => s

/-- One lease at a closing notice for a key ID: RUNNING becomes OVERRUN with its record (R67). -/
def State.closeOne (id : KeyId) (stream : Nat) (s : State) : State :=
  match s.lease stream with
  | .serving .running show_ =>
    if show_.keys.contains id then
      (s.setLease stream (.serving .overrun show_)).handOver (s.leaseOverrunRecord stream show_.tag id)
    else s
  | .serving .overrun _ => s
  | .serving (.held _ _) _ => s
  | .idle => s
  | .refused _ _ => s

/-- The closing notice for a key ID (R22, R67). R67 names no order among several RUNNING leases that list the key: DESIGN
CHOICE (log 40), they take the notice and hand over their LEASE_OVERRUN records in ascending stream number. -/
def State.closingNotice (s : State) (id : KeyId) : State := s.forStreams (State.closeOne id)

/-- One lease at an announcement: it ends EXPIRED when the reading has reached its hard end (R68). -/
def State.expireOne (stream : Nat) (s : State) : State :=
  match s.lease stream with
  | .serving _ show_ => if show_.hardEnd ≤ s.nowSeconds then s.endLease stream .expired else s
  | .idle => s
  | .refused _ _ => s

/-- The lease unit takes an announcement (R68). -/
def State.leasesAnnounced (s : State) : State := s.forStreams State.expireOne

/-- A lease becomes HELD, with its LEASE_HELD record (R60, R69). -/
def State.holdLease (s : State) (stream : Nat) (saved : SavedState) (show_ : Show) : State :=
  (s.setLease stream (.serving (.held saved s.nowSeconds) show_)).handOver
    (s.leaseHeldRecord stream show_.tag saved)

/-- One lease at the hold notice (R69). -/
def State.holdOne (stream : Nat) (s : State) : State :=
  match s.lease stream with
  | .serving .running show_ => s.holdLease stream .running show_
  | .serving .overrun show_ => s.holdLease stream .overrun show_
  | .serving (.held _ _) _ => s
  | .idle => s
  | .refused _ _ => s

/-- The clock's hold notice (R69). -/
def State.holdNotice (s : State) : State := s.forStreams State.holdOne

/-- A key of a list that has no slot, or whose slot's not-after is at or before the reading (R70). -/
def State.keyRunOut (s : State) (id : KeyId) : Bool :=
  match s.findKey id with
  | none => true
  | some (_, k) => decide (k.notAfter ≤ s.nowSeconds)

/-- The state a saved state names (R70). -/
def SavedState.serving : SavedState → Serving
  | .running => .running
  | .overrun => .overrun

/-- One lease at the resume notice (R70). -/
def State.resumeOne (stream : Nat) (s : State) : State :=
  match s.lease stream with
  | .serving (.held saved since) show_ =>
    let resumed := (s.setLease stream (.serving saved.serving show_)).handOver
      (s.leaseResumedRecord stream show_.tag saved since)
    if show_.hardEnd ≤ s.nowSeconds then resumed.endLease stream .expired
    else if saved = .running then
      match show_.keys.find? (fun id => s.keyRunOut id) with
      | some id =>
        (resumed.setLease stream (.serving .overrun show_)).handOver
          (s.leaseOverrunRecord stream show_.tag id)
      | none => resumed
    else resumed
  | .refused _ r => if r.cause = .clock then s.setLease stream .idle else s
  | .serving .running _ => s
  | .serving .overrun _ => s
  | .idle => s

/-- The clock's resume notice (R70). -/
def State.resumeNotice (s : State) : State := s.forStreams State.resumeOne

/-- One lease at a revocation notice for a key ID (R71). -/
def State.revokeOne (id : KeyId) (stream : Nat) (s : State) : State :=
  if (s.lease stream).lists id then s.endLease stream .revoked else s

/-- The revocation notice for a key ID (R71). -/
def State.revocationNotice (s : State) (id : KeyId) : State := s.forStreams (State.revokeOne id)

/-- The stream notice of a RETIRE (R72). -/
def State.retireNotice (s : State) (stream : Nat) : State := (s.endLease stream .retired).dropRefused stream

/-- The stream notice of a SET (R72). -/
def State.changeNotice (s : State) (stream : Nat) : State := s.dropRefused stream

/-- One lease at a trip (R73). -/
def State.tripOne (stream : Nat) (s : State) : State := (s.endLease stream .tripped).dropRefused stream

/-- The lease unit's part of a trip (R73). -/
def State.tripLeases (s : State) : State := s.forStreams State.tripOne

end Sys2Proof.Machine
end

