-- ==== Sys2Proof/Machine/Decisions.lean ====
section
/-! DEFINITION. The read decision: the tests of R53 to R66 on a burst whose data has returned, and the composition of
its beats (R96 to R100, R108). -/

namespace Sys2Proof.Machine

/-- The outcome of a burst's payload beats, with the key value a lane will need (R96, R100). -/
inductive PayloadOutcome where
  | raw
  | dark
  | plainCheck
  | plainShow (key : KeyValue)
  deriving DecidableEq, Repr

/-! ## The tests against the key table -/

/-- The first condition of an opening not met (R56). -/
def State.openingFault (s : State) (stream : Nat) (h : Header) : Option LeaseCause :=
  if s.clock.state ≠ .running then some .clock
  else match s.findKey h.keyId with
    | none => some .noKey
    | some (_, k) =>
      match k.state with
      | .waiting => some .keyWaiting
      | .closed => some .keyClosed
      | .withdrawn => some .keyWithdrawn
      | .opened =>
        if inSet k.auditoriums stream = false then some .auditorium
        else if h.feature ≠ k.feature then some .feature
        else match k.allowance with
          | none => none
          | some a => if a.current = 0 then some .allowance else none

/-- The slot's and the frame's feature both equal the lease's (R61, R62). -/
def featuresAgree (show_ : Show) (k : Key) (h : Header) : Bool :=
  decide (k.feature = show_.feature ∧ h.feature = show_.feature)

/-- The first condition of the use of a listed key not met (R61). -/
def State.useFault (s : State) (show_ : Show) (h : Header) : Option LeaseCause :=
  match s.findKey h.keyId with
  | none => some .noKey
  | some (_, k) =>
    if k.state = .waiting then some .keyWaiting
    else if k.state = .closed ∧ k.freeingTime ≤ s.nowSeconds then some .gracePassed
    else if featuresAgree show_ k h = false then some .feature
    else none

/-- The first condition of a key's joining not met (R62). -/
def State.joinFault (s : State) (stream : Nat) (show_ : Show) (h : Header) : Option LeaseCause :=
  match s.findKey h.keyId with
  | none => some .noKey
  | some (_, k) =>
    if k.state = .waiting then some .keyWaiting
    else if k.state = .withdrawn then some .keyWithdrawn
    else if k.state = .closed ∧ k.freeingTime ≤ s.nowSeconds then some .gracePassed
    else if ¬ (k.notBefore ≤ show_.start ∧ show_.start < k.notAfter) then some .window
    else if inSet k.auditoriums stream = false then some .auditorium
    else if featuresAgree show_ k h = false then some .feature
    else if Config.leaseKeys ≤ show_.keys.length then some .listFull
    else none

/-! ## Counts -/

/-- The greatest value of a lease's counts (R65). -/
def lastCount : Nat := 2 ^ 32 - 1

/-- A count raised by n beats (R65). -/
def raiseCount (count n : Nat) : Nat := min (count + n) lastCount

/-- A show whose burst of n payload beats was PLAIN (R65). -/
def Show.countPlain (show_ : Show) (n : Nat) : Show := { show_ with plainCount := raiseCount show_.plainCount n }

/-- A show whose burst of n payload beats was DARK (R65). -/
def Show.countDark (show_ : Show) (n : Nat) : Show := { show_ with darkCount := raiseCount show_.darkCount n }

/-- A show one of whose bursts key use or joining made DARK, for the first time or again (R66). -/
def Show.refuseJoin (show_ : Show) (cause : LeaseCause) : Show :=
  { show_ with firstRefusal := some (show_.firstRefusal.getD cause) }

/-! ## Key use (test 11) -/

/-- A burst that passes test 11, in the mode of its lease (R64, R108). -/
def State.plainOutcome (s : State) (show_ : Show) (h : Header) : PayloadOutcome :=
  match show_.mode with
  | .check => .plainCheck
  | .show => .plainShow (slotValue ((s.findKey h.keyId).map (fun p => p.2)))

/-- A burst that passes test 11 is counted PLAIN (R64, R65). -/
def State.passPlain (s : State) (stream : Nat) (serving : Serving) (show_ : Show) (h : Header) (n : Nat) :
    State × PayloadOutcome :=
  (s.setLease stream (.serving serving (show_.countPlain n)), s.plainOutcome show_ h)

/-- A burst that test 11 makes DARK (R65, R66). -/
def State.passDark (s : State) (stream : Nat) (serving : Serving) (show_ : Show) (cause : LeaseCause) (n : Nat) :
    State × PayloadOutcome :=
  (s.setLease stream (.serving serving ((show_.countDark n).refuseJoin cause)), .dark)

/-- The slot of a key ID is CLOSED (R63). -/
def State.keyIsClosed (s : State) (id : KeyId) : Bool :=
  match s.findKey id with
  | none => false
  | some (_, k) => decide (k.state = .closed)

/-- A key joins a RUNNING or OVERRUN lease (R62, R63). -/
def State.joinKey (s : State) (stream : Nat) (serving : Serving) (show_ : Show) (h : Header) (n : Nat) :
    State × PayloadOutcome :=
  let joined := { show_ with keys := show_.keys ++ [h.keyId] }
  if serving = .running ∧ s.keyIsClosed h.keyId then
    (s.handOver (s.leaseOverrunRecord stream show_.tag h.keyId)).passPlain stream .overrun joined h n
  else s.passPlain stream serving joined h n

/-- Test 11 (R61, R62). -/
def State.useKey (s : State) (stream : Nat) (serving : Serving) (show_ : Show) (h : Header) (n : Nat) :
    State × PayloadOutcome :=
  if show_.keys.contains h.keyId then
    match s.useFault show_ h with
    | some cause => s.passDark stream serving show_ cause n
    | none => s.passPlain stream serving show_ h n
  else
    match s.joinFault stream show_ h with
    | some cause => s.passDark stream serving show_ cause n
    | none => s.joinKey stream serving show_ h n

/-! ## Openings (tests 7 to 9) -/

/-- A lease opens on a slot; a SHOW-mode opening spends one unit of its allowance (R25, R56). -/
def State.openLease (s : State) (stream : Nat) (h : Header) (slot : Nat) (k : Key) (n : Nat) :
    State × PayloadOutcome :=
  let show_ : Show :=
    { tag := h.tag, feature := k.feature, mode := (s.stream stream).mode, start := s.nowSeconds
      hardEnd := s.nowSeconds + 60 * k.maxRun, keys := [h.keyId], plainCount := 0, darkCount := 0
      firstRefusal := none }
  let spent := match show_.mode with
    | .show => s.editKey slot (fun k =>
        { k with allowance := k.allowance.map (fun (a : Allowance) => { a with current := a.current - 1 }) })
    | .check => s
  ((spent.setLease stream (.serving .running show_)).handOver
    (s.leaseOpenedRecord stream show_ h.keyId slot)).useKey stream .running show_ h n

/-- The refusal an opening leaves (R57). -/
def State.refusal (s : State) (cause : LeaseCause) (h : Header) : LeaseRefusal :=
  { cause := cause, wanting := h.keyId, generation := s.keys.generation }

/-- An opening is attempted (R56, R57). A refused retry writes its record only when its cause is new (R58). -/
def State.attemptOpening (s : State) (stream : Nat) (h : Header) (n : Nat) (old : Option LeaseCause) :
    State × PayloadOutcome :=
  match s.openingFault stream h with
  | some cause =>
    let refused := s.setLease stream (.refused h.tag (s.refusal cause h))
    if old = some cause then (refused, .dark)
    else (refused.handOver (s.leaseRefusedRecord stream h.tag (s.refusal cause h)), .dark)
  | none =>
    match s.findKey h.keyId with
    | none => (s, .dark)
    | some (slot, k) => s.openLease stream h slot k n

/-! ## The lease of the frame's show -/

/-- A serving lease of the frame's show: its hard end, test 10, test 11 (R59, R60). -/
def State.servedBurst (s : State) (stream : Nat) (serving : Serving) (show_ : Show) (h : Header) (n : Nat) :
    State × PayloadOutcome :=
  if show_.hardEnd ≤ s.nowSeconds then (s.endLease stream .expired, .dark)
  else match serving with
    | .held saved since => (s.setLease stream (.serving (.held saved since) (show_.countDark n)), .dark)
    | .running =>
      if s.clock.state = .suspect then (s.holdLease stream .running (show_.countDark n), .dark)
      else s.useKey stream .running show_ h n
    | .overrun =>
      if s.clock.state = .suspect then (s.holdLease stream .overrun (show_.countDark n), .dark)
      else s.useKey stream .overrun show_ h n

/-- Tests 7 to 11 on a burst of an encrypted frame (R55 to R63). -/
def State.decideShow (s : State) (stream : Nat) (h : Header) (n : Nat) : State × PayloadOutcome :=
  match s.lease stream with
  | .idle => s.attemptOpening stream h n none
  | .refused tag refusal =>
    if tag ≠ h.tag then (s.setLease stream .idle).attemptOpening stream h n none
    else if refusal.generation ≠ s.keys.generation then s.attemptOpening stream h n (some refusal.cause)
    else (s, .dark)
  | .serving serving show_ =>
    if show_.tag ≠ h.tag then (s.endLease stream .superseded).attemptOpening stream h n none
    else s.servedBurst stream serving show_ h n

/-- Tests 6 to 11 on a burst with n payload beats (R53, R54). -/
def State.decidePayload (s : State) (stream : Nat) (h : Header) (n : Nat) : State × PayloadOutcome :=
  if n = 0 ∨ h.clear then (s, .raw) else s.decideShow stream h n

/-! ## The burst as a whole -/

/-- Tests 1 to 4: the READY frame a burst may be read from, or none when the whole burst is DARK (R53). -/
def State.readableFrame (s : State) (t : Tracker) : Option Header :=
  let f := s.frame t.stream t.slot
  if s.isTripped then none
  else if (s.stream t.stream).generation ≠ t.streamGeneration then none
  else if f.generation ≠ t.slotGeneration then none
  else match f.state with
    | .ready _ h => some h
    | .vacant => none
    | .header _ _ _ => none
    | .filling _ _ _ => none
    | .broken _ _ _ => none

/-- A beat offset lies in the payload (R53). -/
def Header.isPayload (h : Header) (offset : Nat) : Bool := decide (4 ≤ offset ∧ offset < 4 + h.payloadBeats)

/-- The beat offsets of a burst within its slot (R53). -/
def Tracker.offsets (t : Tracker) (length : Nat) : List Nat := (List.range length).map (fun i => t.firstOffset + i)

/-- One beat composed from its outcome; a SHOW-mode PLAIN beat holds its ciphertext until a lane has taken it
(R96, R99). A CHECK-mode PLAIN beat holds no plaintext and is given the fill pattern of the decision (R108) for good:
R109's RETURNING rows leave open whether a trip gives it the fill pattern of the trip, and the model does not.
DESIGN CHOICE, unsafe, log 46. -/
def composeBeat (fill : Beat) (h : Header) (outcome : PayloadOutcome) (offset : Nat) (data : Beat) : OutBeat :=
  if offset < 4 then okayBeat data
  else if h.isPayload offset then
    match outcome with
    | .raw => okayBeat data
    | .dark => okayBeat fill
    | .plainCheck => okayBeat fill
    | .plainShow _ => { data := data, response := .okay, plain := true }
  else okayBeat fill

/-- The inputs a decided burst's tracker keeps for its lane (R100). -/
def PayloadOutcome.inputs (o : PayloadOutcome) (h : Header) : Option LaneInputs :=
  match o with
  | .raw => none
  | .dark => none
  | .plainCheck => none
  | .plainShow key => some { key := key, frameIndex := h.frameIndex }

/-- The entry of a decided burst: DECIDED with its inputs when it waits for a lane, RETURNING otherwise (R99). -/
def Entry.decided (e : Entry) (response : List OutBeat) (inputs : Option LaneInputs) : Entry :=
  match inputs with
  | some i =>
    { e with response := response
             kind := e.kind.editTracker (fun t => { t with state := .decided, inputs := some i }) }
  | none => { e with response := response, state := .composed, kind := e.kind.returning }

/-- The decision of a burst on the frame it may be read from (R53 to R66). -/
def State.decideFrame (s : State) (tag : Nat) (t : Tracker) (h : Header) (data : List Beat) : State :=
  let offsets := t.offsets data.length
  let (after, outcome) := s.decidePayload t.stream h (offsets.countP (fun o => h.isPayload o))
  after.editEntry tag (fun e =>
    e.decided ((offsets.zip data).map (fun b => composeBeat s.plan.fill h outcome b.1 b.2)) (outcome.inputs h))

/-- The decision of a burst whose data has returned (R53). -/
def State.decideBurst (s : State) (tag : Nat) (t : Tracker) (data : List Beat) : State :=
  match s.readableFrame t with
  | some h => s.decideFrame tag t h data
  | none => s.editEntry tag (fun e => e.decided (data.map (fun _ => okayBeat s.plan.fill)) none)

/-- The data of a cipher-path read returns: it is decided, or answered SLVERR undecided (R53, R98). -/
def State.dataReturns (s : State) (tag : Nat) (beats : List ReadBeat) : State :=
  match s.entry tag with
  | some e =>
    match e.kind with
    | .cipher t =>
      if e.state = .atMemory ∧ t.state = .awaitingMemory ∧ beats.length = e.length then
        if beats.any (fun b => decide (b.response = .slverr)) then s.undecided tag beats.length
        else s.decideBurst tag t (beats.map (fun b => b.data))
      else s
    | .span => s
    | .passThrough => s
    | .write _ => s
  | none => s

end Sys2Proof.Machine
end

