-- ==== Sys2Proof/Machine/ReportWriter.lean ====
section
/-! DEFINITION. The report writer's requests as they are issued (R182, R183, R186, R188), the issue of every internal
request (R126, R127), and memory's answers to them (R127, R183, R186, R188). -/

namespace Sys2Proof.Machine

/-- The 16 bytes of the status beat (R186, 12.5). -/
def State.statusBytes (s : State) : List Byte :=
  leBytes 2 s.report.producer
    ++ [s.clock.state.code, s.trip.latch.code]
    ++ leBytes 4 s.plan.revision.toNat
    ++ [BitVec.ofNat 8 s.slotsInUse, BitVec.ofNat 8 s.nonIdleLeases, BitVec.ofNat 8 s.intake.queue.length]
    ++ leBytes 5 s.recordSeconds.toNat

/-- The 32 bytes of the identity beats (R188, 12.6). -/
def State.identityBytes (s : State) : List Byte :=
  leBytes 8 s.fuses.fullId.toNat
    ++ leBytes 2 Config.familyCode.toNat
    ++ leBytes 2 Config.siliconRevision.toNat
    ++ leBytes 2 Config.keySlots
    ++ leBytes 1 Config.streams
    ++ leBytes 17 0

/-- The 32 bytes of the oldest staged record, its flags filled in (R183). -/
def State.recordBytes (s : State) : List Byte :=
  match s.report.staging with
  | [] => leBytes 32 0
  | r :: _ => r.bytes s.report.lost

/-- A write of one beat, all strobes set. -/
def oneBeat (bytes : List Byte) : List WriteBeat := [fullBeat (beatOfBytes bytes)]

/-- A write of two beats, all strobes set. -/
def twoBeats (bytes : List Byte) : List WriteBeat :=
  [fullBeat (beatOfBytes bytes), fullBeat (beatOfBytes (bytes.drop 16))]

/-- A request of the part's own: its attributes are a free value (log 39). -/
def ownRequest (tag : Nat) (write : Bool) (address length : Nat) (beats : List WriteBeat) : PortRequest :=
  { tag := tag, write := write, address := address, length := length, beats := beats
    attributes := Config.ownAttributes tag }

/-- An internal request as the memory port carries it (R127, R135, R182, R186, R188). -/
def State.internalPort (s : State) (r : InternalRequest) : PortRequest :=
  match r.kind with
  | .verifierRead cell first count =>
    ownRequest r.tag false (s.intakeBase + 0x400 * cell + 16 * first) count []
  | .identityWrite => ownRequest r.tag true (s.intakeBase + 0x8020) 2 (twoBeats s.identityBytes)
  | .statusWrite => ownRequest r.tag true (s.intakeBase + 0x8000) 1 (oneBeat s.statusBytes)
  | .recordWrite =>
    ownRequest r.tag true (s.intakeBase + 0xC000 + 32 * s.report.producer) 2 (twoBeats s.recordBytes)

/-- What the issue of a request does to the report writer's state (R183, R186, R188). -/
def Report.issued (r : Report) : InternalKind → Report
  | .verifierRead _ _ _ => r
  | .identityWrite => { r with identityPending := false }
  | .statusWrite => { r with statusPending := false }
  | .recordWrite => { r with lost := false }

/-- The internal requester's first waiting request is issued; it begins waiting again, from 0, when it has another
(R126). -/
def State.issueInternal (s : State) (r : InternalRequest) : State :=
  ((s.setReport (s.report.issued r.kind)).setPath { s.path with issued := some (s.internalPort r) }).setInternal
    { waiting := s.internal.waiting.tail, grants := 0, atMemory := s.internal.atMemory ++ [r] }

/-- The memory-port arbiter grants the port to its choice (R126). -/
def State.grantPort (s : State) : State :=
  match s.portChoice with
  | none => s
  | some (.server e) => s.issueServer e
  | some (.internal r) => s.issueInternal r

/-- The arbiter grants the port to the internal requester's request of one kind, when that is its choice. -/
def State.grantInternal (s : State) (kind : InternalKind) : State :=
  match s.portChoice with
  | none => s
  | some (.server _) => s
  | some (.internal r) => if r.kind = kind then s.issueInternal r else s

/-! ## Memory's answers (R127) -/

/-- The internal request at memory under a tag. -/
def State.internalAtMemory (s : State) (tag : Nat) : Option InternalRequest :=
  s.internal.atMemory.find? (fun r => decide (r.tag = tag))

/-- An internal request is answered, and so no longer at memory. -/
def State.internalAnswered (s : State) (tag : Nat) : State :=
  s.setInternal { s.internal with atMemory := s.internal.atMemory.filter (fun r => decide (r.tag ≠ tag)) }

/-- The report writer takes memory's answer to a record write (R183). -/
def Report.recordAnswered (r : Report) (response : Response) : Report :=
  match response with
  | .okay =>
    { r with staging := r.staging.tail, producer := (r.producer + 1) % Config.ringSlots, statusPending := true }
  | .slverr => { r with staging := r.staging.tail, lost := true }

/-- Memory answers a record write (R183). -/
def State.recordWriteAnswered (s : State) (tag : Nat) (response : Response) : State :=
  match s.internalAtMemory tag with
  | some r =>
    if r.kind = .recordWrite then
      let answered := s.internalAnswered tag
      answered.setReport (answered.report.recordAnswered response)
    else s
  | none => s

/-- Memory answers a status write or an identity write: nothing but the end of the request (R186, R188). -/
def State.controlWriteAnswered (s : State) (tag : Nat) : State :=
  match s.internalAtMemory tag with
  | some r => if r.kind = .statusWrite ∨ r.kind = .identityWrite then s.internalAnswered tag else s
  | none => s

/-- Memory answers a read of the verifier (R127, R134, R135). -/
def State.verifierReadAnswered (s : State) (tag : Nat) (beats : List ReadBeat) : State :=
  match s.internalAtMemory tag with
  | some r =>
    match r.kind with
    | .verifierRead _ _ count =>
      if beats.length = count then (s.internalAnswered tag).takeReadAnswer beats else s
    | .identityWrite => s
    | .statusWrite => s
    | .recordWrite => s
  | none => s

end Sys2Proof.Machine
end

