-- ==== Sys2Proof/Machine/MemoryPort.lean ====
section
/-! DEFINITION. The meanings of the commands of the memory port: grants (R126), the report writer's issues (R182, R186, R188), and memory's
answers (R118, R120, R127). -/

namespace Sys2Proof.Machine

/-- MEMORY_PORT_GRANT: the arbiter hands the memory port to one request (R126). -/
def execMemoryPortGrant (s : State) : Host.Outcome State Fault Refusal :=
  .next (s.mainAct (fun s => s.presentReport.grantPort))

/-- IDENTITY_WRITE: the identity write is granted and issued (R188). -/
def execIdentityWrite (s : State) : Host.Outcome State Fault Refusal :=
  .next (s.mainAct (fun s => s.presentReport.grantInternal .identityWrite))

/-- STATUS_WRITE: the status write is granted and issued (R186). -/
def execStatusWrite (s : State) : Host.Outcome State Fault Refusal :=
  .next (s.mainAct (fun s => s.presentReport.grantInternal .statusWrite))

/-- RECORD_WRITE: the write of the oldest staged record is granted and issued (R182, R183). -/
def execRecordWrite (s : State) : Host.Outcome State Fault Refusal :=
  .next (s.mainAct (fun s => s.presentReport.grantInternal .recordWrite))

/-- PASS_THROUGH_READ_DATA: memory answers the next beats of a pass-through read (R120, R121). -/
def execPassThroughReadData (tag : Nat) (beats : List ReadBeat) (s : State) : Host.Outcome State Fault Refusal :=
  if burstLength beats.length then .next (s.mainAct (fun s => s.passThroughData tag beats))
  else .refused .illFormed

/-- DECISION: the data of a cipher-path read returns, and it is decided (R53, R98). -/
def execDecision (tag : Nat) (beats : List ReadBeat) (s : State) : Host.Outcome State Fault Refusal :=
  if burstLength beats.length then .next (s.mainAct (fun s => s.dataReturns tag beats))
  else .refused .illFormed

/-- WRITE_ANSWER: memory answers a server write burst (R118). -/
def execWriteAnswer (tag : Nat) (response : Response) (s : State) : Host.Outcome State Fault Refusal :=
  .next (s.mainAct (fun s => s.writeAnswered tag response))

/-- VERIFIER_READ_ANSWER: memory answers a read of the verifier (R134, R135). -/
def execVerifierReadAnswer (tag : Nat) (beats : List ReadBeat) (s : State) : Host.Outcome State Fault Refusal :=
  if burstLength beats.length then .next (s.mainAct (fun s => s.verifierReadAnswered tag beats))
  else .refused .illFormed

/-- RECORD_WRITE_ANSWER: memory answers a record write (R183). -/
def execRecordWriteAnswer (tag : Nat) (response : Response) (s : State) : Host.Outcome State Fault Refusal :=
  .next (s.mainAct (fun s => s.recordWriteAnswered tag response))

/-- CONTROL_WRITE_ANSWER: memory answers a status or an identity write, with either response to the same effect
(R186, R188). -/
def execControlWriteAnswer (tag : Nat) (_response : Response) (s : State) : Host.Outcome State Fault Refusal :=
  .next (s.mainAct (fun s => s.controlWriteAnswered tag))

end Sys2Proof.Machine
end

