-- ==== Sys2Proof/Machine/KeyTime.lean ====
section
/-! DEFINITION. The key table and the passing of time: the boundaries of the window (R20 to R24), the DAILY reload
(R26), and the key table's part of a trip (R28). -/

namespace Sys2Proof.Machine

/-- The boundaries of a slot, in the order in which one slot's boundaries at one time are taken (R20, R24). -/
inductive BoundaryKind where
  | notBefore
  | notAfter
  | freeing
  deriving DecidableEq, Repr

/-- R24. -/
def BoundaryKind.rank : BoundaryKind → Nat
  | .notBefore => 0
  | .notAfter => 1
  | .freeing => 2

/-- A boundary that a reading has reached. -/
structure Boundary where
  time : Nat
  slot : Nat
  kind : BoundaryKind
  deriving DecidableEq, Repr

/-- The order of R24: boundary time, then slot number, then kind. -/
def Boundary.before (a b : Boundary) : Bool :=
  decide (a.time < b.time ∨ (a.time = b.time ∧ (a.slot < b.slot ∨ (a.slot = b.slot ∧ a.kind.rank ≤ b.kind.rank))))

/-- The boundaries that a slot's state makes due, one after the other (R20). -/
def Key.boundaries (slot : Nat) (k : Key) : List Boundary :=
  let notBefore : Boundary := { time := k.notBefore, slot := slot, kind := .notBefore }
  let notAfter : Boundary := { time := k.notAfter, slot := slot, kind := .notAfter }
  let freeing : Boundary := { time := k.freeingTime, slot := slot, kind := .freeing }
  match k.state with
  | .waiting => [notBefore, notAfter, freeing]
  | .opened => [notAfter, freeing]
  | .closed => [freeing]
  | .withdrawn => if k.noticeGiven then [freeing] else [notAfter, freeing]

/-- The boundaries due at a reading over the slots from a first slot number on (R20). -/
def dueBoundariesFrom (now : Nat) : List (Option Key) → Nat → List Boundary
  | [], _ => []
  | none :: rest, n => dueBoundariesFrom now rest (n + 1)
  | some k :: rest, n =>
    (k.boundaries n).filter (fun b => decide (b.time ≤ now)) ++ dueBoundariesFrom now rest (n + 1)

/-- Puts a boundary in its place of R24's order. -/
def insertBoundary (b : Boundary) : List Boundary → List Boundary
  | [] => [b]
  | c :: rest => if b.before c then b :: c :: rest else c :: insertBoundary b rest

/-- The boundaries due at the reading now, in R24's order. -/
def State.dueBoundaries (s : State) : List Boundary :=
  (dueBoundariesFrom s.nowSeconds s.keys.slots 0).foldr insertBoundary []

/-- A slot reaches not-before (R21). -/
def State.reachNotBefore (s : State) (slot : Nat) (k : Key) : State :=
  if k.state = .waiting then
    ((s.setKey slot (some { k with state := .opened })).bumpGeneration).handOver
      (s.keyOpenedRecord .onTime slot k)
  else s

/-- A slot reaches not-after (R22). The lease unit's LEASE_OVERRUN records follow the slot's KEY_CLOSED, and 3.5 lets them
stand before or after the key table's records of later boundaries of one announcement: DESIGN CHOICE (log 44), the lease
unit takes each closing notice at once, before the key table's next boundary. -/
def State.reachNotAfter (s : State) (slot : Nat) (k : Key) : State :=
  if k.state = .opened then
    ((s.setKey slot (some { k with state := .closed, noticeGiven := true })).handOver
      (s.keyClosedRecord slot k)).closingNotice k.keyId
  else if k.state = .withdrawn ∧ k.noticeGiven = false then
    (s.setKey slot (some { k with noticeGiven := true })).closingNotice k.keyId
  else s

/-- A slot reaches its freeing time (R23). -/
def State.reachFreeing (s : State) (slot : Nat) (k : Key) : State :=
  if k.state = .closed ∨ k.state = .withdrawn then
    (s.handOver (s.keyFreedRecord .graceEnded slot k)).emptySlot slot
  else s

/-- One boundary is taken. -/
def State.takeBoundary (s : State) (b : Boundary) : State :=
  match s.key b.slot with
  | none => s
  | some k =>
    match b.kind with
    | .notBefore => s.reachNotBefore b.slot k
    | .notAfter => s.reachNotAfter b.slot k
    | .freeing => s.reachFreeing b.slot k

/-- The key table takes an announcement (R20, R24). -/
def State.keysAnnounced (s : State) : State := s.dueBoundaries.foldl State.takeBoundary s

/-- A key at a DAILY reload: current becomes base (R26). -/
def Key.reload (k : Key) : Key :=
  match k.allowance with
  | none => k
  | some a => if k.daily then { k with allowance := some { a with current := a.base } } else k

/-- A key whose current the reload raises (R26). -/
def Key.reloadRaises (k : Key) : Bool :=
  match k.allowance with
  | none => false
  | some a => k.daily && decide (a.current < a.base)

/-- The key table takes the day notice (R26). -/
def State.dailyReload (s : State) : State :=
  let raised := s.keys.slots.any (fun k => match k with
    | none => false
    | some k => k.reloadRaises)
  let reloaded := s.setKeys { s.keys with slots := s.keys.slots.map (fun k => k.map Key.reload) }
  if raised then reloaded.bumpGeneration else reloaded

/-- Every slot becomes EMPTY, and the PENDING entries of the WITHDRAWN ones are settled (R28, R156). -/
def State.eraseKeys (s : State) : State :=
  (List.range Config.keySlots).foldl (fun s slot => s.emptySlot slot) s

end Sys2Proof.Machine
end

