-- ==== Sys2Proof/Machine/Trip.lean ====
section
/-! DEFINITION. The trip monitor: a cause taken (R176 to R178), changes of TAMPER_N (R174), a TRIP_TEST (R175) and
the clearing of the latch (R179). -/

namespace Sys2Proof.Machine

def State.setLatch (s : State) (v : Latch) : State := s.setTrip { s.trip with latch := v }

/-- Steps 2 to 5 of a trip, in their order: cipher engine, leases, keys, intake (R176). -/
def State.tripBlocks (s : State) : State := s.tripCipher.tripLeases.eraseKeys.tripIntake

/-- A cause is taken: FIRST while NORMAL (R176), a REPEAT while TRIPPED (R178), and the latch alone while the main
domain is not up (R177). -/
def State.takeCause (s : State) (cause : TripCause) (number : BitVec 32) : State :=
  match s.trip.latch with
  | .normal =>
    let latched := s.setLatch (.tripped cause)
    if s.mainUp then
      (latched.statusEvent.handOver (s.trippedRecord cause number .first cause s.slotsInUse)).tripBlocks
    else latched
  | .tripped recorded =>
    if s.mainUp then (s.handOver (s.trippedRecord cause number .again recorded 0)).tripBlocks else s

/-- The standby domain is powered and its mark intact, so that it acts on its own state (R171). -/
def State.standbyActs (s : State) : Bool := s.power.markIntact

/-- The trip monitor takes a change of TAMPER_N to asserted (R174). -/
def State.tamperAsserted (s : State) : State :=
  if s.standbyActs ∧ s.trip.tamper = .deasserted then
    (s.setTrip { s.trip with tamper := .asserted }).takeCause .tamper 0
  else s

/-- The trip monitor takes a change of TAMPER_N to deasserted (R174). -/
def State.tamperDeasserted (s : State) : State :=
  if s.standbyActs then s.setTrip { s.trip with tamper := .deasserted } else s

/-- The trip monitor's checks on a TRIP_TEST (R175). -/
def State.tripTestCheck (s : State) (p : Dispatched) : Option (RefusalCause × BitVec 16) :=
  if s.isTripped then some (.tripped, noIndex)
  else if tripTestBody p.bytes ≠ 0 then some (.badField, 0)
  else none

/-- The trip monitor takes a dispatched TRIP_TEST (R175). -/
def State.takeTripTest (s : State) (p : Dispatched) : State :=
  match s.tripTestCheck p with
  | some (cause, index) => s.answerRefused p cause index
  | none =>
    (s.takeCause .tripTest p.fields.number).answerTaken p
      (codeData TripCause.tripTest.code, BitVec.ofNat 32 s.slotsInUse, BitVec.ofNat 32 s.busyLeases)

/-- The latch is cleared, with its TRIP_CLEARED record (R179); a NORMAL latch is left as it is (R43). -/
def State.clearTrip (s : State) (number : BitVec 32) : State :=
  match s.trip.latch with
  | .normal => s
  | .tripped cause =>
    (((s.handOver (s.tripClearedRecord cause number s.clock.suspectCount)).setLatch .normal).setClock
      { s.clock with suspectCount := 0 }).statusEvent

end Sys2Proof.Machine
end

