-- ==== Sys2Proof/Machine/Clock.lean ====
section
/-! DEFINITION. The screening clock: reference time passing (R30), announcements (R31), slew steps and holds (R36,
R37, R39), the screening day (R44, R45), and TIME parcels (R33 to R35, R38, R40 to R43, R46). -/

namespace Sys2Proof.Machine

/-! ## The passing of reference time -/

/-- The clock acts: the standby domain does, and the clock is not UNSET (R30). -/
def State.clockRuns (s : State) : Bool := s.standbyActs && decide (s.clock.state ≠ .unset)

/-- A slew's next event. -/
inductive SlewEvent where
  | forwardStep
  | holdBegin
  | backwardStep
  deriving DecidableEq, Repr

/-- The slew event that comes next, and the step timer's value at which it is due (R36, R37). -/
def Clock.nextSlew (c : Clock) : Option (SlewEvent × Nat) :=
  if (Config.eighth : Int) ≤ c.remainder then some (.forwardStep, Config.forwardPeriod)
  else if c.remainder ≤ -(Config.eighth : Int) then
    if c.hold then some (.backwardStep, Config.backwardPeriod) else some (.holdBegin, Config.holdStart)
  else none

/-- Reference time until the next slew event. -/
def Clock.untilSlew (c : Clock) : Option Nat := c.nextSlew.map (fun e => e.2 - c.timer)

/-- Reference time until the reading's whole seconds change: none in a hold, and none in the last second (R30,
R37). -/
def Clock.untilSecond (c : Clock) : Option Nat :=
  if c.hold = true ∨ Config.lastReading ≤ c.reading + Config.second - 1 then none
  else some (Config.second - c.fraction)

/-- A whole-second change is the clock's next event; it goes first where both fall together (R47). -/
def Clock.secondIsNext (c : Clock) : Option Nat :=
  match c.untilSecond, c.untilSlew with
  | some d, some e => if d ≤ e then some d else none
  | some d, none => some d
  | none, _ => none

/-- A given slew event is the clock's next event. -/
def Clock.slewIsNext (c : Clock) (event : SlewEvent) : Option Nat :=
  match c.nextSlew with
  | none => none
  | some (e, due) =>
    if e = event ∧ c.secondIsNext = none then some (due - c.timer) else none

/-- Adds to the reading, which stays at its last value (R30). -/
def addReading (reading amount : Nat) : Nat := min (reading + amount) Config.lastReading

/-- Reference time passes in which no event of the clock falls: the reading advances unless a hold is in progress,
and the step timer counts while a slew is in progress (R30, R36, R37). -/
def Clock.pass (c : Clock) (t : Nat) : Clock :=
  { c with reading := if c.hold then c.reading else addReading c.reading t
           timer := if c.remainder = 0 then c.timer else c.timer + t }

/-! ## The screening day (R44, R45) -/

/-- R44. -/
def Clock.computedDay (c : Clock) : Nat :=
  if c.seconds < c.dayOffset then 0 else (c.seconds - c.dayOffset) / Config.daySeconds

/-- The clock's fields at a DAY_BEGAN (R44). -/
def Clock.beginDay (c : Clock) (day : Nat) : Clock :=
  { c with day := day, budget := Config.fullBudget, suspectCount := 0 }

/-- The screening day is evaluated (R44). -/
def State.evaluateDay (s : State) (cause : DayCause) : State :=
  let computed := s.clock.computedDay
  if s.clock.state ≠ .unset ∧ s.clock.day < computed then
    let begun := s.setClock (s.clock.beginDay computed)
    if s.mainUp then begun.dailyReload.handOver (s.dayBeganRecord cause computed s.clock.day) else begun
  else s

/-- The plan unit hands over a day offset (R45). -/
def State.takeDayOffset (s : State) (offset : Nat) : State :=
  (s.setClock { s.clock with dayOffset := offset }).evaluateDay .byOffset

/-! ## Announcements (R31) -/

/-- The key table and the lease unit take an announcement, in a free order (R31). -/
def State.mainAnnounced (s : State) : State :=
  let drawn := s.setDraws (s.draws + 1)
  if Config.keyTableFirst s.draws then drawn.keysAnnounced.leasesAnnounced
  else drawn.leasesAnnounced.keysAnnounced

/-- An announcement, to the main domain while it is up, to the revocation list always, and the evaluation of the
screening day (R31, R44). No rule orders the two: DESIGN CHOICE (log 33), the announcement's key boundaries, lease
ends and list removals come first, the day's evaluation with its DAILY reload (R26) and DAY_BEGAN last. R75 lets a
decision fall between the change of the reading and the lease unit's taking of the announcement (its first row): DESIGN
CHOICE (log 41), the lease unit takes it in the clock's own act. -/
def State.announce (s : State) (cause : DayCause) : State :=
  ((if s.mainUp then s.mainAnnounced else s).revocationsAnnounced).evaluateDay cause

/-! ## The events of reference time -/

/-- Reference time passes up to the reading's next whole second, which is announced (R31). -/
def State.secondPasses (s : State) : State :=
  match s.clock.secondIsNext with
  | some d => if s.clockRuns then (s.setClock (s.clock.pass d)).announce .byTime else s
  | none => s

/-- A remainder below 1/8 s is dropped: the step timer stops at 0 and a hold ends (R36 to R38). -/
def Clock.dropSmall (c : Clock) : Clock :=
  if c.remainder.natAbs < Config.eighth then { c with remainder := 0, timer := 0, hold := false } else c

/-- The clock's fields at a forward step (R36). -/
def Clock.stepForward (c : Clock) : Clock :=
  ({ c with reading := addReading c.reading Config.eighth
            remainder := c.remainder - Config.eighth, timer := 0 } : Clock).dropSmall

/-- Reference time passes up to a forward step (R36). -/
def State.forwardStepPasses (s : State) : State :=
  match s.clock.slewIsNext .forwardStep with
  | some d =>
    if s.clockRuns then
      let passed := s.clock.pass d
      let stepped := s.setClock passed.stepForward
      if stepped.clock.seconds = passed.seconds then stepped else stepped.announce .byTime
    else s
  | none => s

/-- Reference time passes up to the beginning of a hold (R37). -/
def State.holdBeginPasses (s : State) : State :=
  match s.clock.slewIsNext .holdBegin with
  | some d => if s.clockRuns then s.setClock { s.clock.pass d with hold := true } else s
  | none => s

/-- The clock's fields at the completion of a backward step; with no budget left the remainder is dropped (R37,
R39). -/
def Clock.stepBackward (c : Clock) : Clock :=
  if c.budget = 0 then { c with remainder := 0, timer := 0, hold := false }
  else ({ c with remainder := c.remainder + Config.eighth, budget := c.budget - 1, timer := 0
                 hold := false } : Clock).dropSmall

/-- Reference time passes up to the completion of a backward step (R37). -/
def State.backwardStepPasses (s : State) : State :=
  match s.clock.slewIsNext .backwardStep with
  | some d => if s.clockRuns then s.setClock (s.clock.pass d).stepBackward else s
  | none => s

/-- The clock's next event falls due within one unit of reference time. -/
def dueNow : Option Nat → Bool
  | none => false
  | some d => decide (d ≤ 1)

/-- One unit of reference time, 1/65536 s, passes with no command: an event of the clock due within it is taken,
else the reading advances and the step timer counts. -/
def State.tick (s : State) : State :=
  if dueNow s.clock.secondIsNext then s.secondPasses
  else if dueNow (s.clock.slewIsNext .forwardStep) then s.forwardStepPasses
  else if dueNow (s.clock.slewIsNext .holdBegin) then s.holdBeginPasses
  else if dueNow (s.clock.slewIsNext .backwardStep) then s.backwardStepPasses
  else if s.clockRuns then s.setClock (s.clock.pass 1)
  else s

/-! ## TIME parcels -/

/-- The clock's checks 2 to 4 on a TIME parcel (R33). -/
def State.bodyCheck (s : State) (b : TimeBody) : Option RefusalCause :=
  if 2 ^ 40 ≤ b.seconds ∨ 4 ≤ b.flags ∨ (b.clearTrip ∧ ¬ b.resync) ∨ b.padding ≠ 0 then some .badField
  else if s.clock.state = .unset ∧ ¬ b.resync then some .clockUnset
  else if b.clearTrip ∧ s.trip.tamper = .asserted then some .tamperActive
  else none

/-- The clock's checks on a TIME parcel, the trip latch first (R33). -/
def State.timeCheck (s : State) (b : TimeBody) : Option RefusalCause :=
  if s.isTripped ∧ ¬ (b.resync ∧ b.clearTrip) then some .tripped else s.bodyCheck b

/-- The discipline is cleared: remainder 0, step timer 0, any hold ended (R38). -/
def Clock.clearDiscipline (c : Clock) : Clock := { c with remainder := 0, timer := 0, hold := false }

/-- The backward budget in units of 1/65536 s (R34). -/
def Clock.budgetUnits (c : Clock) : Int := Config.eighth * c.budget

/-- The outcome of a correction by an offset (R34). -/
def Clock.weigh (c : Clock) (d : Int) : TimeOutcome :=
  if 86400 * (Config.second : Int) < d then .suspect
  else if 60 * (Config.second : Int) ≤ d then .jump
  else if 0 < d then .slewForward
  else if d = 0 then .noChange
  else if -c.budgetUnits ≤ d then .slewBackward
  else .suspect

/-- Two remainders of one sign, neither 0 (R38). -/
def sameSign (a b : Int) : Bool := decide ((0 < a ∧ 0 < b) ∨ (a < 0 ∧ b < 0))

/-- A slew's remainder is replaced (R38). -/
def Clock.startSlew (c : Clock) (d : Int) : Clock :=
  ({ c with remainder := d
            timer := if sameSign c.remainder d then c.timer else 0
            hold := c.hold && decide (d < 0) } : Clock).dropSmall

/-- The reading is set to T with its CLOCK_STEP record (R35, R42). -/
def State.setReading (s : State) (cause : StepCause) (c : Clock) (number : BitVec 32) : State :=
  let set := s.setClock c
  set.handOver (set.clockStepRecord cause s.clock number)

/-- A jump (R35). -/
def State.jump (s : State) (reading : Nat) (number : BitVec 32) : State :=
  (s.setReading .jump { s.clock.clearDiscipline with reading := reading } number).announce .bySetting

/-- The state changes, with its CLOCK_STATE record and status event (R32, R186). -/
def State.changeClockState (s : State) (new : ClockState) (number : BitVec 32) : State :=
  let changed := s.setClock { s.clock with state := new }
  (changed.handOver (changed.clockStateRecord s.clock.state number)).statusEvent

/-- An entry into SUSPECT (R40). R75 lets a decision fall between the change of state and the lease unit's taking of the
hold notice (its second row): DESIGN CHOICE (log 41), the lease unit takes it in the clock's own act. -/
def State.enterSuspect (s : State) (number : BitVec 32) : State :=
  let count := min (s.clock.suspectCount + 1) 3
  let cleared := s.setClock { s.clock.clearDiscipline with suspectCount := count }
  let held := (cleared.changeClockState .suspect number).holdNotice
  if count = 3 then held.takeCause .suspectRepeat number else held

/-- The outcome of a correction is applied (R34, R35, R38, R40, R41). -/
def State.correct (s : State) (outcome : TimeOutcome) (reading : Nat) (d : Int) (number : BitVec 32) : State :=
  match outcome with
  | .jump => s.jump reading number
  | .slewForward => s.setClock (s.clock.startSlew d)
  | .slewBackward => s.setClock (s.clock.startSlew d)
  | .noChange => s.setClock s.clock.clearDiscipline
  | .suspect =>
    if s.clock.state = .running then s.enterSuspect number else s.setClock s.clock.clearDiscipline
  | .resync => s

/-- A RESYNC (R42). R75 lets a decision fall between the change of state and the lease unit's taking of the resume notice
(its sixth row): DESIGN CHOICE (log 41), the lease unit takes it in the clock's own act. -/
def State.resync (s : State) (reading : Nat) (number : BitVec 32) : State :=
  let old := s.clock.state
  let set := s.setReading .resync
    { s.clock.clearDiscipline with reading := reading, budget := Config.fullBudget, state := .running } number
  let told := if old = .running then set else (set.handOver (set.clockStateRecord old number)).statusEvent
  told.resumeNotice.announce .bySetting

/-- Whole seconds of an offset, rounded toward zero and clipped to 32 bits (R46). -/
def offsetSeconds (d : Int) : BitVec 32 :=
  BitVec.ofInt 32 (max (-2147483648) (min 2147483647 (d.tdiv Config.second)))

/-- The magnitude of an offset's fraction, with bit 31 its sign (12.4). -/
def offsetFraction (d : Int) : BitVec 32 :=
  BitVec.ofNat 32 (d.natAbs % Config.second + if d < 0 then 2 ^ 31 else 0)

/-- The three values of a TIME parcel's PARCEL_TAKEN record (R46). -/
def timeData (outcome : TimeOutcome) (d : Int) : BitVec 32 × BitVec 32 × BitVec 32 :=
  (codeData outcome.code, offsetSeconds d, offsetFraction d)

/-- The offset of a TIME parcel: T less the reading (R34, R46). -/
def State.timeOffset (s : State) (b : TimeBody) : Int := (b.reading : Int) - (s.clock.reading : Int)

/-- The clock applies a TIME parcel that passed its checks (R34, R42, R43). -/
def State.applyTime (s : State) (b : TimeBody) (number : BitVec 32) : State :=
  if b.resync then (if b.clearTrip then s.clearTrip number else s).resync b.reading number
  else s.correct (s.clock.weigh (s.timeOffset b)) b.reading (s.timeOffset b) number

/-- The outcome of a TIME parcel that passed its checks (R46). -/
def State.timeOutcome (s : State) (b : TimeBody) : TimeOutcome :=
  if b.resync then .resync else s.clock.weigh (s.timeOffset b)

/-- A TIME parcel good in every field is the third SUSPECT entry of its day (R33, R34, R40). -/
def State.thirdSuspect (s : State) (b : TimeBody) : Bool :=
  decide (s.bodyCheck b = none ∧ b.resync = false ∧ s.clock.state = .running
    ∧ s.clock.weigh (s.timeOffset b) = .suspect ∧ 2 ≤ s.clock.suspectCount)

/-- An assertion of TAMPER_N tripped the part under a dispatched third SUSPECT entry (R138, R180). -/
def State.meetsTamper (s : State) (b : TimeBody) : Bool :=
  decide (s.trip.latch = .tripped .tamper) && s.thirdSuspect b

/-- The clock applies a dispatched TIME parcel and answers TAKEN with its outcome and offset (R46). -/
def State.timeTaken (s : State) (p : Dispatched) : State :=
  let b := timeBody p.bytes
  (s.applyTime b p.fields.number).answerTaken p (timeData (s.timeOutcome b) (s.timeOffset b))

/-- The clock takes a dispatched TIME parcel (R33, R46). A third SUSPECT entry that meets an assertion of TAMPER_N is
applied, its SUSPECT_REPEAT a REPEAT, where the clock's checks came first, and is refused TRIPPED where the trip came
first: R180 lets either be, and a free value says which (log 32). -/
def State.takeTime (s : State) (p : Dispatched) : State :=
  let b := timeBody p.bytes
  if s.meetsTamper b then
    let drawn := s.setDraws (s.draws + 1)
    if Config.clockChecksFirst s.draws then drawn.timeTaken p else drawn.answerRefused p .tripped noIndex
  else
    match s.timeCheck b with
    | some cause => s.answerRefused p cause noIndex
    | none => s.timeTaken p

end Sys2Proof.Machine
end

