-- ==== Sys2Proof/Machine/Grant.lean ====
section
/-! DEFINITION. The key table takes a GRANT: its checks (R7 to R15) and its application (R16 to R18). -/

namespace Sys2Proof.Machine

/-- The place of the first value of a list that stands earlier in it, from a first number on (R9, R149, R163). -/
def duplicateFrom {α : Type} [DecidableEq α] : List α → List α → Nat → Option Nat
  | _, [], _ => none
  | seen, a :: rest, n => if a ∈ seen then some n else duplicateFrom (a :: seen) rest (n + 1)

/-- The place of the first repeated value of a list. -/
def firstDuplicate {α : Type} [DecidableEq α] (list : List α) : Option Nat := duplicateFrom [] list 0

/-- An entry number as a record carries it. -/
def entryIndex (n : Nat) : BitVec 16 := BitVec.ofNat 16 n

/-- The first entry that fails a check, with its cause and number, from a first number on. -/
def firstFault {α : Type} (check : α → Option RefusalCause) : List α → Nat → Option (RefusalCause × BitVec 16)
  | [], _ => none
  | a :: rest, n =>
    match check a with
    | some cause => some (cause, entryIndex n)
    | none => firstFault check rest (n + 1)

/-- The DAILY flag, bit 0 (12.3). -/
def GrantCommon.daily (c : GrantCommon) : Bool := c.flags.testBit 0

/-- A field of the common part fails (R10, R191). -/
def GrantCommon.isBad (c : GrantCommon) : Bool :=
  decide (2 ^ 40 ≤ c.notBefore ∨ 2 ^ 40 ≤ c.notAfter ∨ c.notAfter ≤ c.notBefore ∨ 240 < c.grace ∨ c.maxRun = 0
    ∨ 480 < c.maxRun ∨ 2 ≤ c.flags ∨ (c.flags = 1 ∧ c.allowanceBase = 0) ∨ c.auditoriums = 0 ∨ c.padding ≠ 0)

/-- A field of an entry fails (R10). -/
def GrantEntry.isBad (e : GrantEntry) : Bool := decide (e.keyId = 0 ∨ e.padding ≠ 0)

/-- The unwrapped key value of an entry (R11). -/
def GrantEntry.value (e : GrantEntry) : KeyValue :=
  Config.unwrap (Config.wrappingKey Config.deviceRootKey e.keyId e.revision) e.wrapped

/-- The unwrapped value is all zero bits or all one bits (R11). -/
def badValue (v : KeyValue) : Bool := decide (v = 0 ∨ v = BitVec.allOnes 128)

/-- The list bars an entry (R12). -/
def State.isRevoked (s : State) (e : GrantEntry) : Bool :=
  match listedRevision e.keyId s.revocations with
  | some listed => decide (e.revision ≤ listed)
  | none => false

/-- The checks of an entry against the slot that holds its key ID (R14). -/
def updateFault (c : GrantCommon) (e : GrantEntry) (k : Key) : Option RefusalCause :=
  if e.revision ≤ k.revision then some .stale
  else if c.feature ≠ k.feature ∨ e.value ≠ k.value then some .keyConflict
  else match k.state with
    | .waiting => none
    | .opened => none
    | .closed => some .keyClosed
    | .withdrawn => some .keyWithdrawn

/-- The checks of one entry, in order (R10 to R14). -/
def State.grantEntryFault (s : State) (c : GrantCommon) (e : GrantEntry) : Option RefusalCause :=
  if c.isBad ∨ e.isBad then some .badField
  else if badValue e.value then some .badWrap
  else if s.isRevoked e then some .revoked
  else if c.notAfter ≤ s.nowSeconds then some .expiredOnArrival
  else match s.findKey e.keyId with
    | some (_, k) => updateFault c e k
    | none => none

/-- An entry's key ID is held by no slot (R14). -/
def State.isNewKey (s : State) (e : GrantEntry) : Bool := (s.findKey e.keyId).isNone

/-- The first new-key entry beyond a number of EMPTY slots (R15). -/
def State.firstUnplaced (s : State) : Nat → List GrantEntry → Nat → Option Nat
  | _, [], _ => none
  | room, e :: rest, n =>
    if s.isNewKey e then
      match room with
      | 0 => some n
      | room + 1 => s.firstUnplaced room rest (n + 1)
    else s.firstUnplaced room rest (n + 1)

/-- The checks on a GRANT, in order (R7). -/
def State.grantCheck (s : State) (c : GrantCommon) (entries : List GrantEntry) :
    Option (RefusalCause × BitVec 16) :=
  if s.isTripped then some (.tripped, noIndex)
  else if s.clock.state = .unset then some (.clockUnset, noIndex)
  else match firstDuplicate (entries.map (fun e => e.keyId)) with
    | some n => some (.duplicateEntry, entryIndex n)
    | none =>
      match firstFault (s.grantEntryFault c) entries 0 with
      | some fault => some fault
      | none =>
        match s.firstUnplaced s.emptySlots entries 0 with
        | some n => some (.tableFull, entryIndex n)
        | none => none

/-- The allowance a GRANT gives: absent for base 0, else full (R16, R17). -/
def GrantCommon.allowance (c : GrantCommon) : Option Allowance :=
  if c.allowanceBase = 0 then none else some { base := c.allowanceBase, current := c.allowanceBase }

/-- The record of a new key (R16). -/
def State.newKey (s : State) (c : GrantCommon) (e : GrantEntry) : Key :=
  { state := if s.nowSeconds < c.notBefore then .waiting else .opened
    keyId := e.keyId, revision := e.revision, feature := c.feature, auditoriums := c.auditoriums
    notBefore := c.notBefore, notAfter := c.notAfter, grace := c.grace, maxRun := c.maxRun
    allowance := c.allowance, daily := c.daily, value := e.value, noticeGiven := false }

/-- A new key is installed in the lowest EMPTY slot (R16). -/
def State.installKey (s : State) (c : GrantCommon) (e : GrantEntry) : State :=
  match s.lowestEmpty with
  | none => s
  | some slot =>
    let k := s.newKey c e
    let installed := s.setKey slot (some k)
    if k.state = .opened then installed.handOver (s.keyOpenedRecord .onGrant slot k) else installed

/-- The record of an updated key, its state not yet evaluated (R17). -/
def Key.update (k : Key) (c : GrantCommon) (e : GrantEntry) : Key :=
  { k with revision := e.revision, auditoriums := c.auditoriums, notBefore := c.notBefore
           notAfter := c.notAfter, grace := c.grace, maxRun := c.maxRun, allowance := c.allowance
           daily := c.daily }

/-- A slot is updated, and a WAITING one whose new window has begun is opened (R17). -/
def State.updateKey (s : State) (c : GrantCommon) (e : GrantEntry) (slot : Nat) (k : Key) : State :=
  let new := k.update c e
  if k.state = .waiting ∧ c.notBefore ≤ s.nowSeconds then
    ((s.setKey slot (some { new with state := .opened })).bumpGeneration).handOver
      (s.keyOpenedRecord .onGrant slot new)
  else s.setKey slot (some new)

/-- One entry is applied (R16, R17). -/
def State.applyGrantEntry (c : GrantCommon) (s : State) (e : GrantEntry) : State :=
  match s.findKey e.keyId with
  | some (slot, k) => s.updateKey c e slot k
  | none => s.installKey c e

/-- Every entry is applied in parcel order, and the generation increments once (R18). -/
def State.applyGrant (s : State) (c : GrantCommon) (entries : List GrantEntry) : State :=
  (entries.foldl (State.applyGrantEntry c) s).bumpGeneration

/-- The key table takes a dispatched GRANT (R7, R18). -/
def State.takeGrant (s : State) (p : Dispatched) : State :=
  let c := grantCommon p.bytes
  let entries := grantEntries p.bytes p.fields.length.toNat
  match s.grantCheck c entries with
  | some (cause, index) => s.answerRefused p cause index
  | none =>
    let applied := s.applyGrant c entries
    let new := entries.countP s.isNewKey
    applied.answerTaken p
      (BitVec.ofNat 32 new, BitVec.ofNat 32 (entries.length - new), applied.keys.generation.setWidth 32)

end Sys2Proof.Machine
end

