-- ==== Sys2Proof/Machine/PlanUnit.lean ====
section
/-! DEFINITION. The plan unit takes a PLAN: its checks (R161 to R166) and its application (R167 to R169). -/

namespace Sys2Proof.Machine

/-- The actions of a PLAN entry (12.7). -/
inductive PlanAction where
  | set
  | retire
  deriving DecidableEq, Repr

/-- The action a PLAN entry's code names (12.7, R163). -/
def planAction (code : Nat) : Option PlanAction :=
  if code = 0x01 then some .set else if code = 0x02 then some .retire else none

/-- An entry is a SET. -/
def PlanEntry.isSet (e : PlanEntry) : Bool := decide (planAction e.action = some .set)

/-! ## What an entry does to its stream's entry (R167, R168) -/

/-- A SET moves the stream's generation: the stream is disabled, or a field other than the reserved trackers
changes (R166, R167). -/
def Stream.changedBy (t : Stream) (e : PlanEntry) : Bool :=
  decide (t.enabled = false ∨ t.source ≠ e.source ∨ streamMode e.mode ≠ some t.mode ∨ t.sizeCode ≠ e.sizeCode
    ∨ t.slotCount ≠ e.slotCount ∨ t.base ≠ e.base)

/-- An entry moves its stream's generation (R167, R168). -/
def Stream.movedBy (t : Stream) (e : PlanEntry) : Bool := if e.isSet then t.changedBy e else true

/-- The stream's entry after a PLAN entry (R167, R168). -/
def Stream.apply (t : Stream) (e : PlanEntry) : Stream :=
  if e.isSet then
    { enabled := true, source := e.source, mode := (streamMode e.mode).getD t.mode, sizeCode := e.sizeCode
      slotCount := e.slotCount, base := e.base, reserved := e.reserved
      generation := if t.changedBy e then t.generation + 1 else t.generation }
  else { t with enabled := false, generation := t.generation + 1 }

/-- One PLAN entry applied to the table. -/
def applyPlanEntry (streams : List Stream) (e : PlanEntry) : List Stream :=
  streams.set e.stream ((streams.getD e.stream Stream.initial).apply e)

/-- The resulting table (R161). -/
def resultingStreams (streams : List Stream) (entries : List PlanEntry) : List Stream :=
  entries.foldl applyPlanEntry streams

/-! ## Checks -/

/-- A field of the common part fails, for a parcel of n entries (R162). -/
def PlanCommon.isBad (c : PlanCommon) (n : Nat) : Bool :=
  decide (86399 < c.dayOffset ∨ arbitrationMode c.arbitration = none ∨ c.count ≠ n ∨ c.padding ≠ 0)

/-- A field of an entry fails (R163). -/
def PlanEntry.isBad (e : PlanEntry) : Bool :=
  decide (15 < e.stream ∨ e.padding ≠ 0) || match planAction e.action with
  | none => true
  | some .set =>
    let size := 2 ^ (19 + e.sizeCode)
    decide (streamMode e.mode = none ∨ 3 < e.sizeCode ∨ e.slotCount < 4 ∨ 64 < e.slotCount ∨ 8 < e.reserved
      ∨ e.base % size ≠ 0 ∨ Config.addressSpace < e.base + e.slotCount * size)
  | some .retire =>
    decide (e.source ≠ 0 ∨ e.mode ≠ 0 ∨ e.sizeCode ≠ 0 ∨ e.slotCount ≠ 0 ∨ e.reserved ≠ 0 ∨ e.base ≠ 0)

/-- Two ranges of addresses share a byte. -/
def rangesMeet (a aEnd b bEnd : Nat) : Bool := decide (a < bEnd ∧ b < aEnd)

/-- Some enabled entry of the table other than one stream's own meets a condition, from a first stream on. -/
def someOther (stream : Nat) (f : Stream → Bool) : List Stream → Nat → Bool
  | [], _ => false
  | t :: rest, n => (decide (n ≠ stream) && t.enabled && f t) || someOther stream f rest (n + 1)

/-- The ring a SET gives its stream shares a byte with another enabled ring or the intake window (R164). -/
def State.overlaps (s : State) (streams : List Stream) (e : PlanEntry) : Bool :=
  let t := streams.getD e.stream Stream.initial
  rangesMeet t.base t.ringEnd s.intakeBase (s.intakeBase + intakeSize)
    || someOther e.stream (fun u => rangesMeet t.base t.ringEnd u.base u.ringEnd) streams 0

/-- The bound source a SET gives its stream is another enabled stream's (R164). -/
def sharesSource (streams : List Stream) (e : PlanEntry) : Bool :=
  someOther e.stream (fun u => decide (u.source = e.source)) streams 0

/-- A check on SET entries alone, with its cause. -/
def onSet (f : PlanEntry → Bool) (cause : RefusalCause) (e : PlanEntry) : Option RefusalCause :=
  if e.isSet && f e then some cause else none

/-- Checks 5 to 10 on the entries, in order (R161, R163 to R166). -/
def State.planEntriesCheck (s : State) (entries : List PlanEntry) : Option (RefusalCause × BitVec 16) :=
  let result := resultingStreams s.plan.streams entries
  (firstFault (fun e => if e.isBad then some .badField else none) entries 0).or <|
  (firstFault (onSet (s.overlaps result) .overlap) entries 0).or <|
  (firstFault (onSet (sharesSource result) .dupSource) entries 0).or <|
  (if Config.reservedLimit < (result.map (fun t => t.reserved)).sum then some (.trackers, noIndex) else none).or <|
  (firstFault (onSet (fun e => decide (e.reserved < s.reservedFor e.stream)) .shrink) entries 0).or <|
  firstFault (onSet (fun e => (s.lease e.stream).busy && (s.stream e.stream).changedBy e) .streamBusy) entries 0

/-- The checks on a PLAN, in order (R161). -/
def State.planCheck (s : State) (c : PlanCommon) (entries : List PlanEntry) :
    Option (RefusalCause × BitVec 16) :=
  if s.isTripped then some (.tripped, noIndex)
  else if c.revision ≤ s.plan.revision then some (.stale, noIndex)
  else if c.isBad entries.length then some (.badField, 0)
  else match firstDuplicate (entries.map (fun e => e.stream)) with
    | some n => some (.duplicateEntry, entryIndex n)
    | none => s.planEntriesCheck entries

/-! ## Application -/

/-- The entries that move their streams' generations, against the table before the PLAN (R167, R168). -/
def State.movedEntries (s : State) (entries : List PlanEntry) : List PlanEntry :=
  entries.filter (fun e => (s.stream e.stream).movedBy e)

/-- The notices of an entry that moved a generation: to the frame monitor and to the lease unit (R167, R168). -/
def State.giveNotices (s : State) (e : PlanEntry) : State :=
  let reset := s.resetNotice e.stream
  if e.isSet then reset.changeNotice e.stream else reset.retireNotice e.stream

/-- The plan unit's act (R169, steps 1 to 3). -/
def State.installPlan (s : State) (c : PlanCommon) (entries : List PlanEntry) : State :=
  (s.movedEntries entries).foldl State.giveNotices
    (s.setPlan
      { revision := c.revision, fill := c.fill
        arbitration := (arbitrationMode c.arbitration).getD s.plan.arbitration
        streams := resultingStreams s.plan.streams entries })

/-- The streams enabled. -/
def State.enabledStreams (s : State) : List Nat :=
  (List.range Config.streams).filter (fun i => (s.stream i).enabled)

/-- What follows the act: the day offset is handed over, the waiting heads are tried again, and the status beat is
due (R169). -/
def State.applyPlan (s : State) (c : PlanCommon) (entries : List PlanEntry) : State :=
  (((s.installPlan c entries).takeDayOffset c.dayOffset).retryHeads).statusEvent

/-- The plan unit takes a dispatched PLAN (R161, R169). -/
def State.takePlan (s : State) (p : Dispatched) : State :=
  let c := planCommon p.bytes
  let entries := planEntries p.bytes p.fields.length.toNat
  match s.planCheck c entries with
  | some (cause, index) => s.answerRefused p cause index
  | none =>
    let applied := s.applyPlan c entries
    applied.answerTaken p
      (c.revision, (setOf ((s.movedEntries entries).map (fun e => e.stream))).setWidth 32,
       (setOf applied.enabledStreams).setWidth 32)

end Sys2Proof.Machine
end

