-- ==== Sys2Proof/Machine/Revoke.lean ====
section
/-! DEFINITION. The key table takes a REVOKE: its checks (R149 to R151) and its application to slots, list and leases
(R152 to R155). -/

namespace Sys2Proof.Machine

/-- A field of the common part fails, for a parcel of n entries (R150). -/
def RevokeCommon.isBad (c : RevokeCommon) (n : Nat) : Bool :=
  decide (revokeMode c.mode = none ∨ c.count ≠ n ∨ c.padding ≠ 0)

/-- A field of an entry fails (R150). -/
def RevokeEntry.isBad (e : RevokeEntry) : Bool :=
  decide (e.keyId = 0 ∨ 2 ^ 40 ≤ e.retainUntil ∨ e.padding ≠ 0)

/-- The checks of one entry, in order (R149 check 4). -/
def State.revokeEntryFault (s : State) (e : RevokeEntry) : Option RefusalCause :=
  if e.isBad then some .badField
  else match s.findKey e.keyId with
    | some (_, k) => if e.revision < k.revision then some .stale else none
    | none => none

/-- The checks on a REVOKE, in order (R149). -/
def State.revokeCheck (s : State) (c : RevokeCommon) (entries : List RevokeEntry) :
    Option (RefusalCause × BitVec 16) :=
  if s.isTripped then some (.tripped, noIndex)
  else if c.isBad entries.length then some (.badField, 0)
  else match firstDuplicate (entries.map (fun e => e.keyId)) with
    | some n => some (.duplicateEntry, entryIndex n)
    | none => firstFault s.revokeEntryFault entries 0

/-- What a REVOKE does to a slot (R152). -/
inductive SlotAct where
  | empties
  | withdraws
  | stays
  deriving DecidableEq, Repr

/-- The table of R152. -/
def slotAct (mode : RevokeMode) (state : KeyState) (listed : Bool) : SlotAct :=
  match mode with
  | .immediate => .empties
  | .afterShow =>
    match state with
    | .waiting => .empties
    | .opened => if listed then .withdraws else .empties
    | .closed => if listed then .withdraws else .empties
    | .withdrawn => if listed then .stays else .empties

/-- A REVOKE as it is being applied: the state so far, the three values of its answer (R155), and the key IDs of the
revocation notices to give (R152). -/
structure RevokeTally where
  state      : State
  emptied    : Nat
  withdrawn  : Nat
  notDurable : Nat
  notices    : List KeyId
  deriving DecidableEq, Repr

/-- An entry is brought into the list (R153, R154). -/
def RevokeTally.bring (y : RevokeTally) (e : RevokeEntry) (retainUntil : Nat) (condition : Condition) :
    RevokeTally :=
  let brought := bringRevocation y.state.nowSeconds
    { keyId := e.keyId, revision := e.revision, retainUntil := retainUntil, condition := condition }
    y.state.revocations
  { y with state := y.state.setRevocations brought.1
           notDurable := y.notDurable + if brought.2 then 1 else 0 }

/-- An entry acts on the slot that holds its key ID, and is brought into the list (R152, R153). The computed
retain-until can pass the 2^40 - 1 s of R145's range, where a freeing time does: DESIGN CHOICE (log 36), the sum is
kept as it is, and no announcement reaches it. -/
def RevokeTally.actOnSlot (y : RevokeTally) (mode : RevokeMode) (number : BitVec 32) (e : RevokeEntry)
    (slot : Nat) (k : Key) : RevokeTally :=
  let s := y.state
  let retainUntil := max e.retainUntil k.freeingTime
  match slotAct mode k.state (s.anyLists e.keyId) with
  | .empties =>
    ({ y with
        state := (s.handOver (s.keyRevocationRecord .keyRevoked mode slot k e.revision number)).emptySlot slot
        emptied := y.emptied + 1
        notices := if mode = .immediate then y.notices ++ [e.keyId] else y.notices } : RevokeTally).bring e
      retainUntil .listed
  | .withdraws =>
    ({ y with
        state := (s.handOver (s.keyRevocationRecord .keyWithdrawn mode slot k e.revision number)).setKey slot
          (some { k with state := .withdrawn })
        withdrawn := y.withdrawn + 1 } : RevokeTally).bring e retainUntil .pending
  | .stays => y.bring e retainUntil .pending

/-- One entry is applied (R152 to R154). -/
def RevokeTally.applyEntry (mode : RevokeMode) (number : BitVec 32) (y : RevokeTally) (e : RevokeEntry) :
    RevokeTally :=
  match y.state.findKey e.keyId with
  | some (slot, k) => y.actOnSlot mode number e slot k
  | none => y.bring e e.retainUntil .listed

/-- Every entry is applied in parcel order, the generation increments once, and the lease unit takes the revocation
notices (R155, R71). -/
def State.applyRevoke (s : State) (mode : RevokeMode) (number : BitVec 32) (entries : List RevokeEntry) :
    RevokeTally :=
  let y := entries.foldl (RevokeTally.applyEntry mode number)
    { state := s, emptied := 0, withdrawn := 0, notDurable := 0, notices := [] }
  { y with state := y.notices.foldl State.revocationNotice y.state.bumpGeneration }

/-- The key table takes a dispatched REVOKE (R149, R155). -/
def State.takeRevoke (s : State) (p : Dispatched) : State :=
  let c := revokeCommon p.bytes
  let entries := revokeEntries p.bytes p.fields.length.toNat
  match s.revokeCheck c entries, revokeMode c.mode with
  | some (cause, index), _ => s.answerRefused p cause index
  | none, some mode =>
    let y := s.applyRevoke mode p.fields.number entries
    y.state.answerTaken p (BitVec.ofNat 32 y.emptied, BitVec.ofNat 32 y.withdrawn, BitVec.ofNat 32 y.notDurable)
  | none, none => s

end Sys2Proof.Machine
end

