-- ==== Sys2Proof/Machine/Parcels.lean ====
section
/-! DEFINITION. The meanings of the tag check's completion and the five owners' taking of the parcel dispatched to them (R137, R139). -/

namespace Sys2Proof.Machine

/-- An owner takes the parcel of its kind, if one is with it. -/
def State.ownerTakes (s : State) (kind : ParcelKind) (take : State → Dispatched → State) : State :=
  match s.dispatched kind with
  | some p => take s p
  | none => s

/-- TAG_CHECK_COMPLETE: checks 4 and 5, and dispatch (R137 to R139). -/
def execTagCheckComplete (s : State) : Host.Outcome State Fault Refusal :=
  .next (s.mainAct State.completeTagCheck)

/-- GRANT: the key table takes the dispatched GRANT (R7). -/
def execGrant (s : State) : Host.Outcome State Fault Refusal :=
  .next (s.mainAct (fun s => s.ownerTakes .grant State.takeGrant))

/-- REVOKE: the key table takes the dispatched REVOKE (R149). -/
def execRevoke (s : State) : Host.Outcome State Fault Refusal :=
  .next (s.mainAct (fun s => s.ownerTakes .revoke State.takeRevoke))

/-- PLAN: the plan unit takes the dispatched PLAN (R161). -/
def execPlan (s : State) : Host.Outcome State Fault Refusal :=
  .next (s.mainAct (fun s => s.ownerTakes .plan State.takePlan))

/-- TIME: the screening clock takes the dispatched TIME parcel (R33). -/
def execTime (s : State) : Host.Outcome State Fault Refusal :=
  .next (s.mainAct (fun s => s.ownerTakes .time State.takeTime))

/-- TRIP_TEST: the trip monitor takes the dispatched TRIP_TEST (R175). -/
def execTripTest (s : State) : Host.Outcome State Fault Refusal :=
  .next (s.mainAct (fun s => s.ownerTakes .tripTest State.takeTripTest))

end Sys2Proof.Machine
end

