-- ==== Sys2Proof/Machine/ServerPort.lean ====
section
/-! DEFINITION. The meanings of the commands of the server port: READ_ACCEPT, WRITE_ACCEPT, RESPONSE_RETURN (R106, R117 to R119). -/

namespace Sys2Proof.Machine

/-- READ_ACCEPT: the server port has received a read burst, which is accepted or waits (R114, R117, R119). -/
def execReadAccept (request : ReadRequest) (s : State) : Host.Outcome State Fault Refusal :=
  if burstLength request.length then .next (s.mainAct (fun s => s.receive (.read request)))
  else .refused .illFormed

/-- WRITE_ACCEPT: the server port has received a write burst whole, which is accepted and shown to its watchers, or
waits (R114, R118, R119). -/
def execWriteAccept (request : WriteRequest) (s : State) : Host.Outcome State Fault Refusal :=
  if burstLength request.beats.length then .next (s.mainAct (fun s => s.receive (.write request)))
  else .refused .illFormed

/-- RESPONSE_RETURN: the server port carries the next beats of a source's oldest response (R106, R120). -/
def execResponseReturn (source : SourceId) (beats : Nat) (s : State) : Host.Outcome State Fault Refusal :=
  if burstLength beats then .next (s.mainAct (fun s => s.returnResponse source beats))
  else .refused .illFormed

end Sys2Proof.Machine
end

