-- ==== Sys2Proof/Machine/Reset.lean ====
section
/-! DEFINITION. Resets and supplies: the main domain's reset (R6, R52, R94, R110, R128, R143, R159, R188), its end
(R177, R188), warm reset, the loss and return of VMAIN (R171, R172), and the loss of the standby domain (R171). -/

namespace Sys2Proof.Machine

/-- Every block of the main domain at its values after a reset, the report writer's staging empty. -/
def State.resetMain (s : State) : State :=
  { s with
    keys := KeyTable.initial, leases := initialLeases, frames := initialFrames, engine := Engine.initial
    path := Path.initial s.path.nextTag, internal := Internal.initial, intake := Intake.initial
    plan := Plan.initial, report := Report.initial [] }

/-- The PENDING entries are settled, since the reset empties the slots they wait for (R146). -/
def State.settleAll (s : State) : State :=
  s.setRevocations (settleAllRevocations s.nowSeconds s.revocations)

/-- The main domain is reset: its blocks, and with them the PENDING entries (R146). -/
def State.beginReset (s : State) : State := s.settleAll.resetMain

/-- The occasion of the TRIPPED record at the end of a reset (R177). -/
def ResetKind.occasion : ResetKind → Occasion
  | .warm => .atReset
  | .cold => .atReset
  | .coldStandbyLost => .first

/-- The records staged at the end of a reset: RESET_DONE, then TRIPPED when the latch is (R177, R188). The latch keeps
no parcel number over a reset: DESIGN CHOICE (log 37), the subject of an AT_RESET record of cause TRIP_TEST or
SUSPECT_REPEAT is 0. -/
def State.resetRecords (s : State) (kind : ResetKind) : List Record :=
  s.resetDoneRecord kind :: match s.trip.latch with
    | .normal => []
    | .tripped cause => [s.trippedRecord cause 0 kind.occasion cause 0]

/-- The end of a reset: INTAKE_SEL is sampled, the report writer takes its first records, and the main domain is up
(R116, R177, R188). -/
def State.endReset (s : State) (kind : ResetKind) (intakeSel : BitVec 2) : State :=
  let sampled := s.setIntakeSel intakeSel
  (sampled.setReport (Report.initial (sampled.resetRecords kind))).setPower { s.power with main := .up }

/-- RESET_N is asserted (R128). -/
def State.assertReset (s : State) : State :=
  if s.power.main = .up then s.beginReset.setPower { s.power with main := .inReset } else s

/-- RESET_N is released (R128, R188). -/
def State.releaseReset (s : State) (intakeSel : BitVec 2) : State :=
  if s.power.main = .inReset then s.endReset .warm intakeSel else s

/-- What RESET_N does in one WARM_RESET. -/
def State.warmReset (s : State) : ResetLine → State
  | .assert => s.assertReset
  | .release sel => s.releaseReset sel
  | .pulse sel => s.assertReset.releaseReset sel

/-- VMAIN is lost (R171). -/
def State.loseMain (s : State) : State :=
  if s.power.main = .off then s else s.setPower { s.power with main := .off }

/-- The standby domain after standby loss, with the level of TAMPER_N as it stands (R29, R145, R172). -/
def State.initStandby (s : State) (tamper : TamperLevel) : State :=
  { s with
    clock := Clock.initial, revocations := [], trip := { latch := .tripped .standbyLost, tamper := tamper }
    power := { s.power with markIntact := true } }

/-- VMAIN returns (R172). -/
def State.powerUp (s : State) (tamper : TamperLevel) (intakeSel : BitVec 2) : State :=
  if s.power.main ≠ .off then s
  else if s.power.markIntact then s.beginReset.endReset .cold intakeSel
  else (s.initStandby tamper).beginReset.endReset .coldStandbyLost intakeSel

/-- The standby domain's contents are lost, and its validity mark with them; VMAIN is absent (R171, R172). -/
def State.loseStandby (s : State) : State :=
  if s.power.main = .off then
    (s.initStandby s.trip.tamper).setPower { s.power with markIntact := false }
  else s

end Sys2Proof.Machine
end

