-- ==== Sys2Proof/Machine/Standby.lean ====
section
/-! DEFINITION. The meanings of the commands of reference time (R31, R36, R37), of TAMPER_N (R174), and of reset and the supplies (R128, R171,
R172), and what an empty queue does. -/

namespace Sys2Proof.Machine

/-- ANNOUNCEMENT: the reading reaches a new whole second (R31). -/
def execAnnouncement (s : State) : Host.Outcome State Fault Refusal := .next (s.standbyAct State.secondPasses)

/-- SLEW_FORWARD_STEP: a forward step falls due (R36). -/
def execSlewForwardStep (s : State) : Host.Outcome State Fault Refusal :=
  .next (s.standbyAct State.forwardStepPasses)

/-- HOLD_BEGIN: a backward step's hold begins (R37). -/
def execHoldBegin (s : State) : Host.Outcome State Fault Refusal := .next (s.standbyAct State.holdBeginPasses)

/-- BACKWARD_STEP: a backward step completes (R37). -/
def execBackwardStep (s : State) : Host.Outcome State Fault Refusal :=
  .next (s.standbyAct State.backwardStepPasses)

/-- TAMPER_ASSERT: TAMPER_N goes to asserted (R174). -/
def execTamperAssert (s : State) : Host.Outcome State Fault Refusal := .next (s.standbyAct State.tamperAsserted)

/-- TAMPER_DEASSERT: TAMPER_N goes to deasserted (R174). -/
def execTamperDeassert (s : State) : Host.Outcome State Fault Refusal :=
  .next (s.standbyAct State.tamperDeasserted)

/-- WARM_RESET (R128). -/
def execWarmReset (line : ResetLine) (s : State) : Host.Outcome State Fault Refusal := .next (s.warmReset line)

/-- COLD_POWER_UP (R172). -/
def execColdPowerUp (tamper : TamperLevel) (intakeSel : BitVec 2) (s : State) :
    Host.Outcome State Fault Refusal :=
  .next (s.powerUp tamper intakeSel)

/-- VMAIN_LOSS (R171). -/
def execVmainLoss (s : State) : Host.Outcome State Fault Refusal := .next s.loseMain

/-- STANDBY_LOSS (R171). -/
def execStandbyLoss (s : State) : Host.Outcome State Fault Refusal := .next s.loseStandby

/-- What the block does while no command waits: one unit of reference time passes (R30). -/
def State.idle (s : State) : State := s.standbyAct State.tick

end Sys2Proof.Machine
end

