-- ==== Sys2Proof/Machine/Dispatch.lean ====
section
/-! DEFINITION. The meaning of each command: one arm per constructor of Instr. -/

namespace Sys2Proof.Machine

/-- A command's effect on everything but the queue. -/
def exec (i : Instr) (s : State) : Host.Outcome State Fault Refusal :=
  match i with
  | .readAccept request => Sys2Proof.Machine.execReadAccept request s
  | .writeAccept request => Sys2Proof.Machine.execWriteAccept request s
  | .memoryPortGrant => Sys2Proof.Machine.execMemoryPortGrant s
  | .passThroughReadData tag beats => Sys2Proof.Machine.execPassThroughReadData tag beats s
  | .decision tag beats => Sys2Proof.Machine.execDecision tag beats s
  | .writeAnswer tag response => Sys2Proof.Machine.execWriteAnswer tag response s
  | .responseReturn source beats => Sys2Proof.Machine.execResponseReturn source beats s
  | .laneGrant => Sys2Proof.Machine.execLaneGrant s
  | .laneComplete lane => Sys2Proof.Machine.execLaneComplete lane s
  | .verifierReadAnswer tag beats => Sys2Proof.Machine.execVerifierReadAnswer tag beats s
  | .tagCheckComplete => Sys2Proof.Machine.execTagCheckComplete s
  | .grant => Sys2Proof.Machine.execGrant s
  | .revoke => Sys2Proof.Machine.execRevoke s
  | .plan => Sys2Proof.Machine.execPlan s
  | .time => Sys2Proof.Machine.execTime s
  | .tripTest => Sys2Proof.Machine.execTripTest s
  | .announcement => Sys2Proof.Machine.execAnnouncement s
  | .slewForwardStep => Sys2Proof.Machine.execSlewForwardStep s
  | .holdBegin => Sys2Proof.Machine.execHoldBegin s
  | .backwardStep => Sys2Proof.Machine.execBackwardStep s
  | .tamperAssert => Sys2Proof.Machine.execTamperAssert s
  | .tamperDeassert => Sys2Proof.Machine.execTamperDeassert s
  | .warmReset line => Sys2Proof.Machine.execWarmReset line s
  | .coldPowerUp tamper intakeSel => Sys2Proof.Machine.execColdPowerUp tamper intakeSel s
  | .vmainLoss => Sys2Proof.Machine.execVmainLoss s
  | .identityWrite => Sys2Proof.Machine.execIdentityWrite s
  | .statusWrite => Sys2Proof.Machine.execStatusWrite s
  | .recordWrite => Sys2Proof.Machine.execRecordWrite s
  | .recordWriteAnswer tag response => Sys2Proof.Machine.execRecordWriteAnswer tag response s
  | .controlWriteAnswer tag response => Sys2Proof.Machine.execControlWriteAnswer tag response s
  | .standbyLoss => Sys2Proof.Machine.execStandbyLoss s

end Sys2Proof.Machine
end

