-- ==== Sys2Proof/Safety.lean ====
section
/-! DEFINITION. The terms in which claims about the part are stated: the blocks of the state, what a step touches,
and the laws the manual says hold at all times. -/

namespace Sys2Proof.Machine

/-! ## What a step touches -/

/-- The blocks of the state. Of the path unit the requests of the lists, the heads with the requests behind them, what
its two ports last carried, and the model's counters of tags and epochs (log 13) are blocks of their own; so are the
internal requests that wait and those at memory, and of the report writer the staging with LOST, the status beat that
is due, and the indices with the identity block that is due. -/
inductive Block where
  | fuses
  | power
  | intakeSel
  | clock
  | revocations
  | trip
  | keys
  | leases
  | frames
  | engine
  | entries
  | heads
  | port
  | counters
  | waiting
  | atMemory
  | intake
  | plan
  | report
  | status
  | indices
  | draws
  | pending
  deriving DecidableEq, Repr

/-- Two states agree in one block. -/
def State.agree (s t : State) : Block → Prop
  | .fuses => t.fuses = s.fuses
  | .power => t.power = s.power
  | .intakeSel => t.intakeSel = s.intakeSel
  | .clock => t.clock = s.clock
  | .revocations => t.revocations = s.revocations
  | .trip => t.trip = s.trip
  | .keys => t.keys = s.keys
  | .leases => t.leases = s.leases
  | .frames => t.frames = s.frames
  | .engine => t.engine = s.engine
  | .entries => t.path.entries = s.path.entries
  | .heads => (t.path.heads, t.path.behind) = (s.path.heads, s.path.behind)
  | .port => (t.path.issued, t.path.returned) = (s.path.issued, s.path.returned)
  | .counters => (t.path.nextTag, t.path.epoch) = (s.path.nextTag, s.path.epoch)
  | .waiting => (t.internal.waiting, t.internal.grants) = (s.internal.waiting, s.internal.grants)
  | .atMemory => t.internal.atMemory = s.internal.atMemory
  | .intake => t.intake = s.intake
  | .plan => t.plan = s.plan
  | .report => (t.report.staging, t.report.lost) = (s.report.staging, s.report.lost)
  | .status => t.report.statusPending = s.report.statusPending
  | .indices => (t.report.producer, t.report.consumer, t.report.identityPending)
      = (s.report.producer, s.report.consumer, s.report.identityPending)
  | .draws => t.draws = s.draws
  | .pending => t.pending = s.pending

/-- Every block outside a list is the same in two states. -/
def Touches (blocks : List Block) (s t : State) : Prop := ∀ b, b ∉ blocks → s.agree t b

/-! ## Records handed over -/

/-- The report writer after records handed over one after the other (R181). -/
def Report.stageAll (r : Report) (records : List Record) : Report := records.foldl Report.stage r

/-- A record is the first handed over since a report writer's state: it stands next in the staging, or the staging
was full and LOST is set (R181). -/
def HandsFirst (before after : Report) (record : Record) : Prop :=
  if before.staging.length < 64 then (before.staging ++ [record]) <+: after.staging else after.lost = true

/-- A record is the last handed over before a report writer's state. -/
def HandsLast (after : Report) (record : Record) : Prop := ∃ r : Report, after = r.stage record

/-- Exactly these records were handed over, in this order, between two states of the report writer. -/
def HandsOver (before after : Report) (records : List Record) : Prop :=
  after.staging = (before.stageAll records).staging ∧ after.lost = (before.stageAll records).lost

/-- A record is among those handed over between two states of the report writer. -/
def HandsAmong (before after : Report) (record : Record) : Prop :=
  ∃ earlier later, HandsOver before after (earlier ++ record :: later)

/-- A record that names a key, its slot and a time (R192). -/
def recordOfKey (seconds : BitVec 40) (kind : RecordKind) (cause : Byte) (slot : Nat) (k : Key) (time : Nat) : Record :=
  { kind := kind, cause := cause, stream := 0xFF, subject := k.keyId, seconds := seconds
    data0 := k.revision.setWidth 32, data1 := BitVec.ofNat 32 time, data2 := BitVec.ofNat 32 (time / 2 ^ 32 % 256)
    index := BitVec.ofNat 16 slot }

/-- A record that names a stream and a show tag (R192). -/
def recordOfShow (seconds : BitVec 40) (kind : RecordKind) (cause : Byte) (stream : Nat) (tag : BitVec 16)
    (data0 data1 data2 : BitVec 32) : Record :=
  { kind := kind, cause := cause, stream := BitVec.ofNat 8 stream, subject := tag.setWidth 32, seconds := seconds
    data0 := data0, data1 := data1, data2 := data2, index := 0xFFFF }

/-- The LEASE_ENDED record of a show (R74). -/
def recordOfEnd (seconds : BitVec 40) (stream : Nat) (cause : EndCause) (sh : Show) : Record :=
  recordOfShow seconds .leaseEnded cause.code stream sh.tag (BitVec.ofNat 32 sh.plainCount)
    (BitVec.ofNat 32 sh.darkCount) (match sh.firstRefusal with
      | none => 0
      | some c => c.code.setWidth 32)

/-- The FRAME_BROKEN record of a slot (R90). -/
def recordOfBreak (seconds : BitVec 40) (stream slot : Nat) (cause : BrokenCause) (writer : Option SourceId)
    (header : Option Header) (source : SourceId) (data2 : Nat) : Record :=
  { kind := .frameBroken, cause := cause.code, stream := BitVec.ofNat 8 stream
    subject := match header with
      | none => 0
      | some h => h.tag.setWidth 32
    seconds := seconds, data0 := source.setWidth 32
    data1 := match writer with
      | none => 0xFFFFFFFF
      | some w => w.setWidth 32
    data2 := BitVec.ofNat 32 data2, index := BitVec.ofNat 16 slot }

/-! ## The key table and the revocation list -/

/-- The keys of the non-EMPTY slots, in slot order. -/
def State.heldKeys (s : State) : List Key := s.keys.slots.filterMap id

/-- The ranges of a key's fields (R1, R10, R25). -/
def Key.inRange (k : Key) : Prop :=
  k.keyId ≠ 0 ∧ k.auditoriums ≠ 0 ∧ k.notBefore < k.notAfter ∧ k.notAfter < 2 ^ 40 ∧ k.grace ≤ 240
    ∧ 1 ≤ k.maxRun ∧ k.maxRun ≤ 480 ∧ (k.daily = true → k.allowance ≠ none)
    ∧ ∀ a, k.allowance = some a → 1 ≤ a.base ∧ a.base ≤ 65535 ∧ a.current ≤ a.base

/-- 128 slots, no two with the same key ID, every key in its ranges (R1, R3). -/
def KeyTableLaw (s : State) : Prop :=
  s.keys.slots.length = 128
    ∧ (s.heldKeys.map (fun k => k.keyId)).Nodup
    ∧ ∀ k ∈ s.heldKeys, k.inRange

/-- Every LISTED entry's retain-until lies after a time in whole seconds (R147). -/
def NonePassed (s : State) (seconds : Nat) : Prop :=
  ∀ r ∈ s.revocations, r.condition = .listed → seconds < r.retainUntil

/-- At most 32 entries, no two with the same key ID, in ascending order of retain-until; a PENDING entry's key ID is
held by a WITHDRAWN slot; no slot holds a key ID LISTED at its revision or above; and the reading has passed no LISTED
entry (R12, R145, R147). -/
def RevocationLaw (s : State) : Prop :=
  s.revocations.length ≤ 32
    ∧ (s.revocations.map (fun r => r.keyId)).Nodup
    ∧ (s.revocations.map (fun r => r.retainUntil)).Pairwise (fun a b => a ≤ b)
    ∧ (∀ r ∈ s.revocations, r.condition = .pending → ∃ k ∈ s.heldKeys, k.keyId = r.keyId ∧ k.state = .withdrawn)
    ∧ (∀ r ∈ s.revocations, r.condition = .listed → ∀ k ∈ s.heldKeys, k.keyId = r.keyId → r.revision < k.revision)
    ∧ NonePassed s (s.clock.reading / 65536)

/-- An entry of the list when its key's slot becomes EMPTY: a PENDING one is LISTED if its retain-until lies after the
reading and gone otherwise, a LISTED one stays (R156). -/
def settledEntry (now : Nat) (r : Revocation) : Option Revocation :=
  if r.condition = .pending then (if now < r.retainUntil then some { r with condition := .listed } else none)
  else some r

/-- The WITHDRAWN slot that held a key ID is EMPTY in another state. -/
def State.freed (s t : State) (id : KeyId) : Bool :=
  (s.findKey id).any (fun p => decide (p.2.state = .withdrawn)) && (t.findKey id).isNone

/-- The list once WITHDRAWN slots have become EMPTY up to another state: their entries are settled in place, and every
other entry stays (R156). -/
def State.listSettled (s t : State) (now : Nat) : List Revocation :=
  s.revocations.filterMap (fun r => if s.freed t r.keyId then settledEntry now r else some r)

/-- The list after an announcement: entries of WITHDRAWN slots that it freed are settled, LISTED entries whose
retain-until is at or before the reading are gone, and every other entry stays, PENDING ones whatever their
retain-until (R147, R156). -/
def State.listAnnounced (s t : State) (now : Nat) : List Revocation :=
  (s.listSettled t now).filter (fun r => decide (r.condition = .pending ∨ now < r.retainUntil))

/-! ## Leases and frames -/

/-- 16 leases, each serving one's key list of 1 to 8 key IDs, none twice (R49). -/
def LeaseLaw (s : State) : Prop :=
  s.leases.length = 16
    ∧ ∀ st sh, Lease.serving st sh ∈ s.leases → sh.keys.Nodup ∧ 1 ≤ sh.keys.length ∧ sh.keys.length ≤ 8

/-- The fill counter of a frame record: 1 to 3 with as many beats captured in HEADER, 4 to 4 + P in FILLING (R77,
R81). -/
def Frame.inRange (f : Frame) : Prop :=
  match f.state with
  | .vacant => True
  | .header _ fill capture => 1 ≤ fill ∧ fill ≤ 3 ∧ capture.length = fill
  | .filling _ fill h => 4 ≤ fill ∧ fill ≤ 4 + h.payloadBeats ∧ 1 ≤ h.payloadBeats
  | .ready _ h => 1 ≤ h.payloadBeats
  | .broken _ _ _ => True

/-- 16 sets of 64 frame records, each in its range (R77). -/
def FrameLaw (s : State) : Prop :=
  s.frames.length = 16 ∧ ∀ set ∈ s.frames, set.length = 64 ∧ ∀ f ∈ set, f.inRange

/-! ## Requests and plaintext -/

/-- The tags of the bursts in the lanes. -/
def State.laneTags (s : State) : List Nat := s.engine.lanes.filterMap (fun j => j.map (fun job => job.tag))

/-- A tag names one request and one lane at most, a lane's burst is IN_LANE, and only a burst past its decision
holds beats decided PLAIN (R99, R101, R115). -/
def TagLaw (s : State) : Prop :=
  (s.path.entries.map (fun e => e.tag)).Nodup
    ∧ (∀ e ∈ s.path.entries, e.tag < s.path.nextTag)
    ∧ s.laneTags.Nodup
    ∧ (∀ tag ∈ s.laneTags, tag < s.path.nextTag ∧ ∀ e ∈ s.path.entries, e.tag = tag → e.trackerState = some .inLane)
    ∧ ∀ e ∈ s.path.entries, (e.trackerState = none ∨ e.trackerState = some .awaitingMemory) →
        ∀ b ∈ e.response, b.plain = false

/-! ## Trips -/

/-- Every slot EMPTY, every lease IDLE, every lane FREE, no burst DECIDED or IN_LANE, and no beat decided PLAIN still
to be returned (R28, R73, R109). -/
def Stopped (s : State) : Prop :=
  (∀ k ∈ s.keys.slots, k = none)
    ∧ (∀ l ∈ s.leases, l = .idle)
    ∧ (∀ j ∈ s.engine.lanes, j = none)
    ∧ ∀ e ∈ s.path.entries, e.trackerState ≠ some .decided ∧ e.trackerState ≠ some .inLane
        ∧ ∀ b ∈ e.response.drop e.returned, b.plain = false

/-- While TRIPPED with the main domain up, and while the main domain is held in reset, keyed service is stopped
(R28, R73, R109, R128). -/
def TripLaw (s : State) : Prop :=
  (s.power.main = .inReset ∨ (s.power.main = .up ∧ s.isTripped = true)) → Stopped s

/-! ## Bounds -/

/-- The report writer's bounds (R181, R182) and its one request at a time (R187). -/
def ReportLaw (s : State) : Prop :=
  s.report.staging.length ≤ 64 ∧ s.report.producer < 512 ∧ s.report.consumer < 512
    ∧ (s.internal.waiting ++ s.internal.atMemory).countP (fun r => r.kind.ofReport) ≤ 1

/-- The ranges of a stream entry (R158): the ring base is a multiple of the slot size, and the ring ends within the
address space. -/
def Stream.inRange (t : Stream) : Prop :=
  4 ≤ t.slotCount ∧ t.slotCount ≤ 64 ∧ t.sizeCode ≤ 3 ∧ t.reserved ≤ 8 ∧ t.base % 2 ^ (19 + t.sizeCode) = 0
    ∧ t.base + t.slotCount * 2 ^ (19 + t.sizeCode) ≤ 2 ^ 36

/-- The rings of two stream entries share no byte (R164). -/
def RingsApart (t u : Stream) : Prop :=
  t.base + t.slotCount * 2 ^ (19 + t.sizeCode) ≤ u.base ∨ u.base + u.slotCount * 2 ^ (19 + u.sizeCode) ≤ t.base

/-- Enabled rings share no byte with each other or with the intake window, and enabled streams are bound to sources of
their own (R164); no stream is enabled while RESET_N is asserted (R159). -/
def RingLaw (s : State) : Prop :=
  (∀ i < 16, ∀ j < 16, i ≠ j → (s.stream i).enabled = true → (s.stream j).enabled = true →
      RingsApart (s.stream i) (s.stream j) ∧ (s.stream i).source ≠ (s.stream j).source)
    ∧ (∀ i < 16, (s.stream i).enabled = true →
        (s.stream i).base + (s.stream i).slotCount * 2 ^ (19 + (s.stream i).sizeCode) ≤ 2 ^ 30 * s.intakeSel.toNat
          ∨ 2 ^ 30 * s.intakeSel.toNat + 0x10000 ≤ (s.stream i).base)
    ∧ s.plan.streams.length = 16
    ∧ (s.power.main = .inReset → ∀ i < 16, (s.stream i).enabled = false)

/-- A tracker can be taken for a read of a stream (R122, R125). -/
def TrackerFree (s : State) (stream : Nat) : Prop :=
  s.trackers.length < 48 ∧ (s.inUseBy stream < (s.stream stream).reserved ∨ s.borrowed < 48 - s.reservedSum)

/-- A head can be accepted: a list place is free and, for a cipher-path read, a tracker (R117, R119). -/
def Acceptable (s : State) (request : Request) : Prop :=
  s.path.entries.length < 96
    ∧ ∀ r p, request = .read r → s.ringClass r.address r.length = .ring p → (s.stream p.stream).source = r.source →
        TrackerFree s p.stream

/-- Each source has one waiting head at most, with its later requests behind it; the heads stand in the order in which
they are tried, and none that could be accepted still waits (R119, R124). -/
def WaitLaw (s : State) : Prop :=
  (s.path.heads.map (fun h => requestSource h.request)).Nodup
    ∧ s.path.heads.Pairwise (fun a b => a.since < b.since
        ∨ (a.since = b.since ∧ requestSource a.request < requestSource b.request))
    ∧ (∀ r ∈ s.path.behind, ∃ h ∈ s.path.heads, requestSource h.request = requestSource r)
    ∧ ∀ h ∈ s.path.heads, ¬ Acceptable s h.request

/-- The bounds of the lists and of the trackers (R119, R122), and 16 stream entries in their ranges with at most 44
trackers reserved (R158, R165). -/
def PathLaw (s : State) : Prop :=
  s.path.entries.length ≤ 96 ∧ s.trackers.length ≤ 48
    ∧ s.plan.streams.length = 16 ∧ (∀ t ∈ s.plan.streams, t.inRange) ∧ s.reservedSum ≤ 44

/-- The cells that are queued, under verification, or of a pending commit. -/
def Intake.heldCells (x : Intake) : List Nat :=
  x.commits.map (fun c => c.cell) ++ x.queue.map (fun e => e.cell) ++ x.verifier.cell.toList

/-- At most 8 entries, never one cell twice, never the cell under verification (R132); an IDLE verifier leaves no
entry waiting (R134). -/
def QueueLaw (s : State) : Prop :=
  s.intake.queue.length ≤ 8 ∧ s.intake.heldCells.Nodup ∧ (s.intake.verifier = .idle → s.intake.queue = [])

/-- The discipline of the clock in its ranges: no slew, a forward one of at least 1/8 s, or a backward one the budget
can pay, with the step timer short of its next event (R29, R36, R37, R39). -/
def Clock.disciplined (c : Clock) : Prop :=
  if c.remainder = 0 then c.timer = 0 ∧ c.hold = false
  else if 0 < c.remainder then
    8192 ≤ c.remainder ∧ c.remainder < 60 * 65536 ∧ c.hold = false ∧ c.timer ≤ 8 * 65536
  else
    c.remainder ≤ -8192 ∧ -(8192 * c.budget : Int) ≤ c.remainder
      ∧ c.timer ≤ if c.hold then 64 * 65536 else 64 * 65536 - 8192

/-- The clock's fields in their ranges (R29), and no UNSET clock without a TRIPPED latch (R172, R179). -/
def ClockLaw (s : State) : Prop :=
  s.clock.reading ≤ Config.lastReading ∧ s.clock.budget ≤ 48 ∧ s.clock.suspectCount ≤ 3
    ∧ s.clock.day ≤ 12725829 ∧ s.clock.dayOffset ≤ 86399 ∧ s.clock.disciplined
    ∧ (s.clock.state = .unset → s.isTripped = true)

/-! ## The terms of the statements about resets -/

/-- The records at the end of a reset: RESET_DONE with its kind, then TRIPPED with its occasion while the latch is
TRIPPED, its subject 0 whatever the cause (R177, R188; log 37). -/
def State.recordsAfterReset (s : State) (kind occasion : BitVec 32) (sel : BitVec 2) : List Record :=
  { kind := .resetDone, cause := 0, stream := 0xFF, subject := 0, seconds := s.recordSeconds, data0 := kind,
    data1 := sel.setWidth 32, data2 := 0, index := 0xFFFF } ::
  match s.trip.latch with
  | .normal => []
  | .tripped cause =>
    [{ kind := .tripped, cause := cause.code, stream := 0xFF, subject := 0, seconds := s.recordSeconds,
       data0 := occasion, data1 := cause.code.setWidth 32, data2 := 0, index := 0xFFFF }]

/-- The main domain at the values the reset tables give, with PENDING revocations settled, and the standby domain as
it stood (R6, R29, R52, R94, R110, R128, R143, R146, R159, R188). -/
def State.resetTo (s : State) (main : MainPower) (sel : BitVec 2) (staging : List Record) : State :=
  { s with
    power := { s.power with main := main }
    intakeSel := sel
    revocations := s.revocations.filterMap (fun r =>
      if r.condition = .listed then some r
      else if s.nowSeconds < r.retainUntil then some { r with condition := .listed } else none)
    keys := { slots := List.replicate 128 none, generation := 0 }
    leases := List.replicate 16 .idle
    frames := List.replicate 16 (List.replicate 64 { state := .vacant, generation := 0 })
    engine := { lanes := List.replicate 4 none, lastGranted := 15 }
    path := { entries := [], heads := [], behind := [], nextTag := s.path.nextTag, epoch := 0, issued := none,
              returned := none }
    internal := { waiting := [], grants := 0, atMemory := [] }
    intake := { commits := [], queue := [], verifier := .idle }
    plan := { revision := 0, fill := 0, arbitration := .rotating, streams := List.replicate 16 Stream.initial }
    report := { staging := staging, producer := 0, consumer := 0, lost := false, statusPending := false,
                identityPending := true } }

/-! ## The terms of the statements about time -/

/-- The reading's next whole second falls after d units of reference time, and no slew event falls before it (R31,
R36, R37). -/
def SecondDue (s : State) (d : Nat) : Prop :=
  s.power.markIntact = true ∧ s.clock.state ≠ .unset ∧ s.clock.hold = false
    ∧ s.clock.reading + 65535 < 2 ^ 56 - 1 ∧ d = 65536 - s.clock.reading % 65536
    ∧ (8192 ≤ s.clock.remainder → s.clock.timer + d ≤ 8 * 65536)
    ∧ (s.clock.remainder ≤ -8192 → s.clock.timer + d ≤ 64 * 65536 - 8192)

/-- The step timer reaches a value before the reading's next whole second (R36, R37). -/
def SlewDue (s : State) (due : Nat) : Prop :=
  s.power.markIntact = true ∧ s.clock.state ≠ .unset ∧ s.clock.timer ≤ due ∧ s.clock.reading ≤ 2 ^ 56 - 1
    ∧ (s.clock.hold = true ∨ 2 ^ 56 - 1 ≤ s.clock.reading + 65535
        ∨ due - s.clock.timer < 65536 - s.clock.reading % 65536)

/-- The computed day number at a reading in whole seconds (R44). -/
def dayNumber (seconds dayOffset : Nat) : Nat := if seconds < dayOffset then 0 else (seconds - dayOffset) / 86400

/-- The stored day, the budget and the SUSPECT count after the day is evaluated, from what they were (R44). -/
def dayEvaluated (seconds dayOffset day budget suspectCount : Nat) : Nat × Nat × Nat :=
  if day < dayNumber seconds dayOffset then (dayNumber seconds dayOffset, 48, 0) else (day, budget, suspectCount)

/-- The stored day, the budget and the SUSPECT count of a clock. -/
def Clock.dayFields (c : Clock) : Nat × Nat × Nat := (c.day, c.budget, c.suspectCount)

/-- The remainder, the step timer and the hold of a clock whose discipline is cleared (R38). -/
def Clock.undisciplined (c : Clock) : Prop := c.remainder = 0 ∧ c.timer = 0 ∧ c.hold = false

/-- A key once the reading has reached a time, none when its slot is then EMPTY (R20 to R24). -/
def Key.reached (k : Key) (now : Nat) : Option Key :=
  if k.notAfter + 60 * k.grace ≤ now then none
  else match k.state with
    | .waiting =>
      if k.notAfter ≤ now then some { k with state := .closed, noticeGiven := true }
      else if k.notBefore ≤ now then some { k with state := .opened }
      else some k
    | .opened => if k.notAfter ≤ now then some { k with state := .closed, noticeGiven := true } else some k
    | .closed => some k
    | .withdrawn => if k.notAfter ≤ now then some { k with noticeGiven := true } else some k

/-- A key whose DAILY allowance is reloaded (R26). -/
def Key.reloaded (k : Key) : Key :=
  { k with allowance := k.allowance.map (fun (a : Allowance) =>
      { a with current := if k.daily = true then a.base else a.current }) }

/-- A key whose current a DAILY reload raises (R26). -/
def Key.raised (k : Key) : Bool := k.daily && k.allowance.any (fun a => decide (a.current < a.base))

/-- A key gives its closing notice by a time (R22). -/
def Key.closesBy (k : Key) (now : Nat) : Bool :=
  decide (k.notAfter ≤ now ∧ (k.state = .waiting ∨ k.state = .opened ∨ (k.state = .withdrawn ∧ k.noticeGiven = false)))

/-- What time does to the key table: every key is moved, a WITHDRAWN key that no lease lists any more is freed, and a
new day reloads DAILY allowances; the generation rises once for each key opened, and once for a reload that raises a
current of a key that stays (R20 to R27). -/
def KeysMove (s t : State) (move : Key → Option Key) (opened : Nat) (newDay : Bool) : Prop :=
  (∀ slot, s.key slot = none → t.key slot = none)
    ∧ (∀ slot k, s.key slot = some k →
        t.key slot =
          if k.state = .withdrawn ∧ s.anyLists k.keyId = true ∧ t.anyLists k.keyId = false then none
          else (move k).map (fun k => if newDay then k.reloaded else k))
    ∧ t.keys.generation = s.keys.generation + BitVec.ofNat 16 opened
        + (if newDay ∧ (s.keys.slots.zip t.keys.slots).any (fun p => p.2.isSome && p.1.any Key.raised) then 1 else 0)

/-- What an announcement does to the key table: every slot goes through the boundaries reached (R20 to R27). -/
def KeysReach (s t : State) (now : Nat) (newDay : Bool) : Prop :=
  KeysMove s t (fun k => k.reached now)
    (s.heldKeys.countP (fun k => decide (k.state = .waiting ∧ k.notBefore ≤ now))) newDay

/-- A lease that a closing key reaches by a time, with the key (R67). -/
def State.closing (s : State) (now : Nat) (id : KeyId) : Bool :=
  s.heldKeys.any (fun k => decide (k.keyId = id) && k.closesBy now)

/-- What an announcement does to a serving lease: at its hard end it ends EXPIRED, and RUNNING with a closing key in
its list it is OVERRUN, each with its record (R67, R68). -/
def LeaseReaches (s t : State) (now i : Nat) (st : Serving) (sh : Show) : Prop :=
  if sh.hardEnd ≤ now then
    t.lease i = .idle ∧ HandsAmong s.report t.report (recordOfEnd (BitVec.ofNat 40 now) i .expired sh)
  else if st = .running ∧ sh.keys.any (s.closing now) then
    t.lease i = .serving .overrun sh
      ∧ ∃ id ∈ sh.keys, s.closing now id = true
          ∧ HandsAmong s.report t.report (recordOfShow (BitVec.ofNat 40 now) .leaseOverrun 0 i sh.tag id 0 0)
  else t.lease i = .serving st sh

/-- What an announcement does to the leases (R67, R68). -/
def LeasesReach (s t : State) (now : Nat) : Prop :=
  ∀ i < 16,
    match s.lease i with
    | .serving st sh => LeaseReaches s t now i st sh
    | other => t.lease i = other

/-- A key of a list has no slot, or a slot whose not-after lies at or before a reading (R70). -/
def State.runOut (s : State) (now : Nat) (id : KeyId) : Bool :=
  (s.findKey id).all (fun p => decide (p.2.notAfter ≤ now))

/-- What a RESYNC to a reading does to the leases: a HELD one is resumed with its record, and ends EXPIRED at its hard
end, or is OVERRUN with the first key of its list that has run out, or stands as saved; one REFUSED for the clock is
IDLE; the others meet the announcement (R70, R67, R68). -/
def LeasesResume (s t : State) (now : Nat) : Prop :=
  ∀ i < 16,
    match s.lease i with
    | .serving (.held saved since) sh =>
      HandsAmong s.report t.report (recordOfShow (BitVec.ofNat 40 now) .leaseResumed 0 i sh.tag (saved.code.setWidth 32)
        (BitVec.ofNat 32 since) (BitVec.ofNat 32 (since / 2 ^ 32 % 256)))
      ∧ (if sh.hardEnd ≤ now then
          t.lease i = .idle ∧ HandsAmong s.report t.report (recordOfEnd (BitVec.ofNat 40 now) i .expired sh)
        else
          match saved, sh.keys.find? (s.runOut now) with
          | .running, some id =>
            t.lease i = .serving .overrun sh
              ∧ HandsAmong s.report t.report (recordOfShow (BitVec.ofNat 40 now) .leaseOverrun 0 i sh.tag id 0 0)
          | .running, none => t.lease i = .serving .running sh
          | .overrun, _ => t.lease i = .serving .overrun sh)
    | .serving .running sh => LeaseReaches s t now i .running sh
    | .serving .overrun sh => LeaseReaches s t now i .overrun sh
    | .refused tag refusal => t.lease i = if refusal.cause = .clock then .idle else .refused tag refusal
    | .idle => t.lease i = .idle

/-- A boundary of a slot that the reading reaches by a time (R20). -/
def State.reaches (s : State) (now : Nat) (b : Boundary) : Prop :=
  ∃ k, s.key b.slot = some k ∧ b.time ≤ now
    ∧ match b.kind with
      | .notBefore => b.time = k.notBefore ∧ k.state = .waiting
      | .notAfter => b.time = k.notAfter ∧ (k.state = .waiting ∨ k.state = .opened
          ∨ (k.state = .withdrawn ∧ k.noticeGiven = false))
      | .freeing => b.time = k.notAfter + 60 * k.grace

/-- The record of a boundary taken, none of a WITHDRAWN key's not-after (R21 to R23). -/
def State.boundaryRecord (s : State) (now : Nat) (b : Boundary) : Option Record :=
  match s.key b.slot with
  | none => none
  | some k =>
    match b.kind with
    | .notBefore => some (recordOfKey (BitVec.ofNat 40 now) .keyOpened 2 b.slot k k.notBefore)
    | .notAfter =>
      if k.state = .withdrawn then none
      else some (recordOfKey (BitVec.ofNat 40 now) .keyClosed 0 b.slot k k.notAfter)
    | .freeing => some (recordOfKey (BitVec.ofNat 40 now) .keyFreed 1 b.slot k (k.notAfter + 60 * k.grace))

/-- The DAY_BEGAN record of a cause at a reading and a day offset (R44, R45). -/
def State.dayRecord (s : State) (cause : DayCause) (now dayOffset : Nat) : Record :=
  { kind := .dayBegan, cause := cause.code, stream := 0xFF, subject := 0, seconds := BitVec.ofNat 40 now
    data0 := BitVec.ofNat 32 (dayNumber now dayOffset), data1 := BitVec.ofNat 32 s.clock.day, data2 := 0
    index := 0xFFFF }

/-- The KEY_FREED record of a WITHDRAWN key whose last lease has ended (R27). -/
def lastEndRecord (now slot : Nat) (k : Key) : Record := recordOfKey (BitVec.ofNat 40 now) .keyFreed 2 slot k now

/-- The records of an announcement that ends no lease and closes no key of a RUNNING one: those of the boundaries in
ascending time, then slot, then not-before, not-after, freeing, and last that of a new day (R24, R44; log 33). -/
def BoundaryRecords (s t : State) (now : Nat) (newDay : Bool) : Prop :=
  (∀ st sh, Lease.serving st sh ∈ s.leases →
      now < sh.hardEnd ∧ (st = .running → ∀ id ∈ sh.keys, s.closing now id = false)) →
    ∃ taken : List Boundary,
      taken.Pairwise (fun a b => a.time < b.time
        ∨ (a.time = b.time ∧ (a.slot < b.slot ∨ (a.slot = b.slot ∧ a.kind.rank < b.kind.rank))))
      ∧ (∀ b, b ∈ taken ↔ s.reaches now b)
      ∧ HandsOver s.report t.report
          (taken.filterMap (s.boundaryRecord now) ++ if newDay then [s.dayRecord .byTime now s.clock.dayOffset] else [])

/-- The key table's and the clock's records of any announcement: each boundary reached has its record among those
handed over, and so has a new day; a WITHDRAWN key that an ended lease was the last to list is freed with the record
of that end, or of its freeing time where that too is reached (R21 to R23, R27, R44). -/
def RecordsReach (s t : State) (now : Nat) (cause : DayCause) (newDay : Bool) : Prop :=
  (∀ slot k, s.key slot = some k →
      if k.state = .withdrawn ∧ s.anyLists k.keyId = true ∧ t.anyLists k.keyId = false then
        HandsAmong s.report t.report (lastEndRecord now slot k)
        ∨ (k.notAfter + 60 * k.grace ≤ now
            ∧ HandsAmong s.report t.report
                (recordOfKey (BitVec.ofNat 40 now) .keyFreed 1 slot k (k.notAfter + 60 * k.grace)))
      else
        ∀ b q, b.slot = slot → s.reaches now b → s.boundaryRecord now b = some q → HandsAmong s.report t.report q)
    ∧ (newDay = true → HandsAmong s.report t.report (s.dayRecord cause now s.clock.dayOffset))

/-- A TIME parcel passes the clock's checks (R33). -/
def TimePasses (s : State) (b : TimeBody) : Prop :=
  (s.trip.latch = .normal ∨ (b.resync = true ∧ b.clearTrip = true)) ∧ b.seconds < 2 ^ 40 ∧ b.flags < 4
    ∧ (b.clearTrip = true → b.resync = true) ∧ b.padding = 0 ∧ (s.clock.state = .unset → b.resync = true)
    ∧ (b.clearTrip = true → s.trip.tamper = .deasserted)

/-- A TIME parcel good in every field is the third SUSPECT entry of its day (R33, R34, R40), at a part that an
assertion of TAMPER_N has tripped under it (R138). -/
def MeetsTamper (s : State) (b : TimeBody) : Prop :=
  let d : Int := ((65536 * b.seconds + b.fraction : Nat) : Int) - s.clock.reading
  s.trip.latch = .tripped .tamper ∧ b.seconds < 2 ^ 40 ∧ b.flags < 4 ∧ b.clearTrip = false ∧ b.resync = false
    ∧ b.padding = 0 ∧ s.clock.state = .running ∧ 2 ≤ s.clock.suspectCount
    ∧ (86400 * 65536 < d ∨ d < -(8192 * s.clock.budget : Int))

/-! ## The terms of the statements about parcels -/

/-- The PARCEL_TAKEN record of a parcel with its three values (R140). -/
def takenRecord (s : State) (p : Dispatched) (data0 data1 data2 : BitVec 32) : Record :=
  { kind := .parcelTaken, cause := p.fields.kind, stream := 0xFF, subject := p.fields.number,
    seconds := s.recordSeconds, data0 := data0, data1 := data1, data2 := data2, index := BitVec.ofNat 16 p.cell }

/-- The PARCEL_REFUSED record of a parcel by its fields, cell, cause and entry index (R141). -/
def refusedRecord (s : State) (fields : Captured) (cell : Nat) (cause : RefusalCause) (index : BitVec 16) : Record :=
  { kind := .parcelRefused, cause := cause.code, stream := 0xFF, subject := fields.number,
    seconds := s.recordSeconds, data0 := fields.kind.setWidth 32, data1 := BitVec.ofNat 32 cell,
    data2 := fields.length.setWidth 32, index := index }

/-- The verifier is IDLE with an empty queue, or reads the head of a queue, its first read handed over (R134, R135). -/
def TakesHead (t : State) (queue : List QueueEntry) : Prop :=
  match queue with
  | [] => t.intake.verifier = .idle ∧ t.intake.queue = []
  | e :: rest =>
    t.intake.verifier = .reading e.cell e.fields [] ∧ t.intake.queue = rest
      ∧ ∃ q ∈ t.internal.waiting, q.kind = .verifierRead e.cell 0 16

/-- An owner is rid of its parcel: the verifier is IDLE, or reads the next queue entry, and the pending commits stay
(R134). -/
def OwnerDone (s t : State) : Prop := t.intake.commits = s.intake.commits ∧ TakesHead t s.intake.queue

/-- The PARCEL_TAKEN record of a TIME parcel at a reading: its outcome, and its offset from the old reading as whole
seconds toward zero, clipped to 32 bits, and a fraction whose bit 31 is the sign (R46, 12.4). -/
def timeRecord (s : State) (p : Dispatched) (outcome : BitVec 32) (seconds : BitVec 40) : Record :=
  let b := timeBody p.bytes
  let d : Int := ((65536 * b.seconds + b.fraction : Nat) : Int) - s.clock.reading
  { takenRecord s p outcome (BitVec.ofInt 32 (max (-2 ^ 31) (min (2 ^ 31 - 1) (d.tdiv 65536))))
      (BitVec.ofNat 32 (d.natAbs % 65536 + if d < 0 then 2 ^ 31 else 0)) with
    seconds := seconds }

/-- The CLOCK_STEP record of a TIME parcel that sets the reading: the readings before and after (R35, R42). -/
def stepRecord (s : State) (p : Dispatched) (cause : StepCause) : Record :=
  let b := timeBody p.bytes
  { kind := .clockStep, cause := cause.code, stream := 0xFF, subject := p.fields.number
    seconds := BitVec.ofNat 40 b.seconds, data0 := BitVec.ofNat 32 (s.clock.reading / 65536)
    data1 := BitVec.ofNat 32 (s.clock.reading / 65536 / 2 ^ 32 % 256)
    data2 := BitVec.ofNat 32 (s.clock.reading % 65536 + 65536 * b.fraction), index := 0xFFFF }

/-- The records that the trip monitor and the clock hand over first at a RESYNC, in their order: TRIP_CLEARED of a
TRIPPED latch, CLOCK_STEP, and CLOCK_STATE with the old state where it was not RUNNING (R42, R43, R179). -/
def resyncRecords (s : State) (p : Dispatched) : List Record :=
  (match s.trip.latch with
   | .normal => []
   | .tripped cause =>
     [{ kind := .tripCleared, cause := cause.code, stream := 0xFF, subject := p.fields.number
        seconds := s.recordSeconds, data0 := BitVec.ofNat 32 s.clock.suspectCount, data1 := 0, data2 := 0
        index := 0xFFFF }])
  ++ [stepRecord s p .resync]
  ++ (if s.clock.state = .running then [] else
       [{ kind := .clockState, cause := ClockState.running.code, stream := 0xFF, subject := p.fields.number
          seconds := BitVec.ofNat 40 (timeBody p.bytes).seconds, data0 := s.clock.state.code.setWidth 32, data1 := 0
          data2 := 0, index := 0xFFFF }])

/-- The verifier waits for one of its reads at memory (R134). -/
def State.verifierAtMemory (s : State) : Bool := s.internal.atMemory.any (fun r => !r.kind.ofReport)

/-- A verification in READING ends: with its read at memory the verifier is DRAINING, else its waiting read is withdrawn
and the next queue entry is taken (R134). -/
def ReadingEnds (s t : State) (queue : List QueueEntry) : Prop :=
  (s.verifierAtMemory = true → t.intake.verifier = .draining ∧ t.intake.queue = queue)
    ∧ (s.verifierAtMemory = false →
        TakesHead t queue
        ∧ (t.internal.waiting.filter (fun r => !r.kind.ofReport)).map (fun r => r.kind) =
            (queue.take 1).map (fun e => .verifierRead e.cell 0 16))

/-- A parcel's length is one that its kind admits (R136, 12.3). -/
def LengthFits (kind : Byte) (length : Nat) : Prop :=
  (kind = 0x01 ∧ ∃ n, 1 ≤ n ∧ n ≤ 30 ∧ length = 64 + 32 * n)
    ∨ (kind = 0x02 ∧ ∃ n, 1 ≤ n ∧ n ≤ 60 ∧ length = 48 + 16 * n)
    ∨ (kind = 0x03 ∧ ∃ n, 1 ≤ n ∧ n ≤ 16 ∧ length = 64 + 16 * n)
    ∨ ((kind = 0x04 ∨ kind = 0x05) ∧ length = 48)

/-- An entry of a parcel is the first to fail a test, at its number. -/
def FirstEntry {α : Type} (entries : List α) (fails : Nat → α → Prop) (i : Nat) (e : α) : Prop :=
  entries[i]? = some e ∧ fails i e ∧ ∀ j a, j < i → entries[j]? = some a → ¬ fails j a

/-- The first check that fails settles a parcel: each check is given as what fails it and what follows (R7, R149,
R161). -/
def FirstCheck : List (Prop × Prop) → Prop
  | [] => False
  | (fails, outcome) :: rest => (fails ∧ outcome) ∨ (¬ fails ∧ FirstCheck rest)

/-- The first check of R10 to R14 that an entry of a GRANT fails, in their order. -/
def GrantEntryFails (s : State) (c : GrantCommon) (e : GrantEntry) : Option RefusalCause :=
  let value := Config.unwrap (Config.wrappingKey Config.deviceRootKey e.keyId e.revision) e.wrapped
  if 2 ^ 40 ≤ c.notBefore ∨ 2 ^ 40 ≤ c.notAfter ∨ c.notAfter ≤ c.notBefore ∨ 240 < c.grace ∨ c.maxRun = 0
      ∨ 480 < c.maxRun ∨ 1 < c.flags ∨ (c.flags = 1 ∧ c.allowanceBase = 0) ∨ c.auditoriums = 0 ∨ c.padding ≠ 0
      ∨ e.keyId = 0 ∨ e.padding ≠ 0 then some .badField
  else if value = 0 ∨ value = BitVec.allOnes 128 then some .badWrap
  else if (s.revocations.find? (fun r => decide (r.keyId = e.keyId))).any (fun r =>
      decide (r.condition = .listed ∧ e.revision ≤ r.revision)) then some .revoked
  else if c.notAfter ≤ s.clock.reading / 65536 then some .expiredOnArrival
  else match s.findKey e.keyId with
    | none => none
    | some (_, k) =>
      if e.revision ≤ k.revision then some .stale
      else if c.feature ≠ k.feature ∨ value ≠ k.value then some .keyConflict
      else if k.state = .closed then some .keyClosed
      else if k.state = .withdrawn then some .keyWithdrawn
      else none

/-- How many of some entries of a GRANT name a key that no slot holds (R15). -/
def State.newKeys (s : State) (entries : List GrantEntry) : Nat :=
  entries.countP (fun e => (s.findKey e.keyId).isNone)

/-- How many slots are EMPTY (R15). -/
def State.emptyCount (s : State) : Nat := s.keys.slots.countP (fun k => k.isNone)

/-- The slot of an entry of a GRANT: the one that holds its key, or for a new key the lowest EMPTY one that no new key
of an earlier entry takes (R16, R17). -/
def State.grantSlot (s : State) (entries : List GrantEntry) (e : GrantEntry) : Nat :=
  match s.findKey e.keyId with
  | some (slot, _) => slot
  | none =>
    ((List.range s.keys.slots.length).filter (fun i => (s.key i).isNone)).getD
      (s.newKeys (entries.takeWhile (fun a => decide (a.keyId ≠ e.keyId)))) 0

/-- The KEY_OPENED record of an entry of a GRANT, if it opens a key: a new or a WAITING one whose window has begun (R16,
R17). -/
def State.grantRecord (s : State) (c : GrantCommon) (entries : List GrantEntry) (e : GrantEntry) : Option Record :=
  if c.notBefore ≤ s.clock.reading / 65536 ∧ (s.findKey e.keyId).all (fun p => decide (p.2.state = .waiting)) = true then
    some { kind := .keyOpened, cause := 1, stream := 0xFF, subject := e.keyId, seconds := s.recordSeconds
           data0 := e.revision.setWidth 32, data1 := BitVec.ofNat 32 c.notBefore
           data2 := BitVec.ofNat 32 (c.notBefore / 2 ^ 32 % 256)
           index := BitVec.ofNat 16 (s.grantSlot entries e) }
  else none

/-- A GRANT passes every check (R7 to R15). -/
def GrantPasses (s : State) (c : GrantCommon) (entries : List GrantEntry) : Prop :=
  s.trip.latch = .normal ∧ s.clock.state ≠ .unset ∧ (entries.map (fun e => e.keyId)).Nodup
    ∧ (∀ e ∈ entries, GrantEntryFails s c e = none) ∧ s.newKeys entries ≤ s.emptyCount

/-- The cause and entry index with which a GRANT fails its first check (R7 to R15). -/
def GrantRefused (s : State) (c : GrantCommon) (entries : List GrantEntry) (cause : RefusalCause)
    (index : BitVec 16) : Prop :=
  let first (test : Nat → GrantEntry → Prop) (named : GrantEntry → Prop) : Prop :=
    ∃ i e, index = BitVec.ofNat 16 i ∧ FirstEntry entries test i e ∧ named e
  FirstCheck
    [(s.trip.latch ≠ .normal, cause = .tripped ∧ index = 0xFFFF),
     (s.clock.state = .unset, cause = .clockUnset ∧ index = 0xFFFF),
     (¬ (entries.map (fun e => e.keyId)).Nodup,
       first (fun i e => ∃ a ∈ entries.take i, a.keyId = e.keyId) (fun _ => cause = .duplicateEntry)),
     (∃ e ∈ entries, GrantEntryFails s c e ≠ none,
       first (fun _ e => GrantEntryFails s c e ≠ none) (fun e => GrantEntryFails s c e = some cause)),
     (s.emptyCount < s.newKeys entries,
       first (fun i _ => s.emptyCount < s.newKeys (entries.take (i + 1))) (fun _ => cause = .tableFull))]

/-- The first check of R150 and R151 that an entry of a REVOKE fails. -/
def RevokeEntryFails (s : State) (e : RevokeEntry) : Option RefusalCause :=
  if e.keyId = 0 ∨ 2 ^ 40 ≤ e.retainUntil ∨ e.padding ≠ 0 then some .badField
  else if (s.findKey e.keyId).any (fun p => decide (e.revision < p.2.revision)) then some .stale
  else none

/-- The common part of a REVOKE of n entries fails (R150). -/
def RevokeCommonFails (c : RevokeCommon) (n : Nat) : Prop := (c.mode ≠ 1 ∧ c.mode ≠ 2) ∨ c.count ≠ n ∨ c.padding ≠ 0

/-- A REVOKE of a mode passes every check (R149 to R151). -/
def RevokePasses (s : State) (c : RevokeCommon) (entries : List RevokeEntry) (mode : RevokeMode) : Prop :=
  s.trip.latch = .normal ∧ ¬ RevokeCommonFails c entries.length ∧ c.mode = (if mode = .immediate then 1 else 2)
    ∧ (entries.map (fun e => e.keyId)).Nodup ∧ ∀ e ∈ entries, RevokeEntryFails s e = none

/-- The cause and entry index with which a REVOKE fails its first check (R149 to R151). -/
def RevokeRefused (s : State) (c : RevokeCommon) (entries : List RevokeEntry) (cause : RefusalCause)
    (index : BitVec 16) : Prop :=
  let first (test : Nat → RevokeEntry → Prop) (named : RevokeEntry → Prop) : Prop :=
    ∃ i e, index = BitVec.ofNat 16 i ∧ FirstEntry entries test i e ∧ named e
  FirstCheck
    [(s.trip.latch ≠ .normal, cause = .tripped ∧ index = 0xFFFF),
     (RevokeCommonFails c entries.length, cause = .badField ∧ index = 0),
     (¬ (entries.map (fun e => e.keyId)).Nodup,
       first (fun i e => ∃ a ∈ entries.take i, a.keyId = e.keyId) (fun _ => cause = .duplicateEntry)),
     (∃ e ∈ entries, RevokeEntryFails s e ≠ none,
       first (fun _ e => RevokeEntryFails s e ≠ none) (fun e => RevokeEntryFails s e = some cause))]

/-- A REVOKE entry empties the slot that holds its key (R152). -/
def revokeEmpties (s : State) (mode : RevokeMode) (e : RevokeEntry) : Bool :=
  (s.findKey e.keyId).any (fun p =>
    decide (mode = .immediate ∨ p.2.state = .waiting ∨ s.anyLists e.keyId = false))

/-- A REVOKE entry withdraws the slot that holds its key (R152). -/
def revokeWithdraws (s : State) (mode : RevokeMode) (e : RevokeEntry) : Bool :=
  (s.findKey e.keyId).any (fun p =>
    decide (mode = .afterShow ∧ s.anyLists e.keyId = true ∧ (p.2.state = .opened ∨ p.2.state = .closed)))

/-- The retain-until computed for a REVOKE entry (R153; log 36). -/
def revokeRetain (s : State) (e : RevokeEntry) : Nat :=
  match s.findKey e.keyId with
  | none => e.retainUntil
  | some (_, k) => max e.retainUntil (k.notAfter + 60 * k.grace)

/-- The condition computed for a REVOKE entry: PENDING when its key's slot is WITHDRAWN after it (R153). -/
def revokeCondition (s : State) (mode : RevokeMode) (e : RevokeEntry) : Condition :=
  if (s.findKey e.keyId).isSome && !revokeEmpties s mode e then .pending else .listed

/-- The list entry that a REVOKE entry merges into: that of its key ID, settled where the entry empties its WITHDRAWN
slot (R153, R156). -/
def revokeStanding (s : State) (mode : RevokeMode) (e : RevokeEntry) : Option Revocation :=
  (s.revocations.find? (fun r => decide (r.keyId = e.keyId))).bind (fun r =>
    if revokeEmpties s mode e then settledEntry (s.clock.reading / 65536) r else some r)

/-- How many places the list has taken when a REVOKE comes to an entry after some earlier ones: those of the entries
that were there and are not gone by a settlement, and those that earlier entries took (R154). -/
def revokePlaces (s t : State) (mode : RevokeMode) (earlier : List RevokeEntry) (e : RevokeEntry) : Nat :=
  s.revocations.countP (fun r => (earlier ++ [e]).all (fun a =>
      decide (a.keyId ≠ r.keyId) || (revokeStanding s mode a).isSome))
    + earlier.countP (fun a =>
        (revokeStanding s mode a).isNone && t.revocations.any (fun r => decide (r.keyId = a.keyId)))

/-- What a REVOKE does to the list, key ID by key ID. An entry that the parcel does not name stays, settled where its
WITHDRAWN slot was freed. A named one is merged: the higher revision, the later retain-until, the condition just
computed. A new one joins exactly when its retain-until lies after the reading and one of the 32 places is free at its
turn (R153, R154, R156). -/
def ListRevokes (s t : State) (mode : RevokeMode) (entries : List RevokeEntry) : Prop :=
  let now := s.clock.reading / 65536
  let entryOf (u : State) (id : KeyId) : Option Revocation := u.revocations.find? (fun r => decide (r.keyId = id))
  (∀ id, (∀ e ∈ entries, e.keyId ≠ id) →
      entryOf t id = (entryOf s id).bind (fun r => if s.freed t id then settledEntry now r else some r))
    ∧ ∀ (earlier : List RevokeEntry) (e : RevokeEntry) (later : List RevokeEntry), entries = earlier ++ e :: later →
        entryOf t e.keyId =
          match revokeStanding s mode e with
          | some old =>
            some { keyId := e.keyId, revision := if old.revision < e.revision then e.revision else old.revision
                   retainUntil := max old.retainUntil (revokeRetain s e), condition := revokeCondition s mode e }
          | none =>
            if now < revokeRetain s e ∧ revokePlaces s t mode earlier e < 32 then
              some { keyId := e.keyId, revision := e.revision, retainUntil := revokeRetain s e
                     condition := revokeCondition s mode e }
            else none

/-- The key record of a REVOKE entry, with the parcel's number (R152). -/
def revokeRecord (s : State) (mode : RevokeMode) (number : BitVec 32) (e : RevokeEntry) : Option Record :=
  match s.findKey e.keyId with
  | none => none
  | some (slot, k) =>
    if revokeEmpties s mode e || revokeWithdraws s mode e then
      some { kind := if revokeEmpties s mode e then .keyRevoked else .keyWithdrawn, cause := mode.code, stream := 0xFF
             subject := k.keyId, seconds := s.recordSeconds, data0 := k.revision.setWidth 32
             data1 := e.revision.setWidth 32, data2 := number, index := BitVec.ofNat 16 slot }
    else none

/-- The entry of an IMMEDIATE REVOKE whose notice ends a show: the first in parcel order whose key a slot holds and the
show lists (R71). -/
def revokedBy (s : State) (entries : List RevokeEntry) (sh : Show) : Option RevokeEntry :=
  entries.find? (fun e => (s.findKey e.keyId).isSome && sh.keys.contains e.keyId)

/-- The LEASE_ENDED records of an IMMEDIATE REVOKE: for each notice in entry order, in ascending stream number (R71). -/
def revokeEnds (s : State) (entries : List RevokeEntry) : List Record :=
  entries.flatMap (fun e => (List.range 16).filterMap (fun i =>
    match s.lease i with
    | .serving _ sh =>
      if revokedBy s entries sh = some e then some (recordOfEnd s.recordSeconds i .revoked sh) else none
    | .idle => none
    | .refused _ _ => none))

/-- The ring, bound source, reserved trackers and enabling of a stream in the table as a PLAN would leave it (R161). -/
def plannedStream (s : State) (entries : List PlanEntry) (i : Nat) : Stream :=
  match entries.find? (fun e => decide (e.stream = i)) with
  | none => s.stream i
  | some e =>
    if e.action = 1 then
      { s.stream i with enabled := true, source := e.source, sizeCode := e.sizeCode, slotCount := e.slotCount
                        base := e.base, reserved := e.reserved }
    else { s.stream i with enabled := false }

/-- The common part of a PLAN of n entries fails (R162). -/
def PlanCommonFails (c : PlanCommon) (n : Nat) : Prop :=
  86399 < c.dayOffset ∨ (c.arbitration ≠ 1 ∧ c.arbitration ≠ 2) ∨ c.count ≠ n ∨ c.padding ≠ 0

/-- The fields of an entry of a PLAN fail (R163). -/
def PlanFieldsFail (e : PlanEntry) : Prop :=
  15 < e.stream ∨ e.padding ≠ 0 ∨ (e.action ≠ 1 ∧ e.action ≠ 2)
    ∨ (e.action = 1 ∧ ((e.mode ≠ 1 ∧ e.mode ≠ 2) ∨ 3 < e.sizeCode ∨ e.slotCount < 4 ∨ 64 < e.slotCount
        ∨ 8 < e.reserved ∨ e.base % 2 ^ (19 + e.sizeCode) ≠ 0
        ∨ 2 ^ 36 < e.base + e.slotCount * 2 ^ (19 + e.sizeCode)))
    ∨ (e.action = 2 ∧ (e.source ≠ 0 ∨ e.mode ≠ 0 ∨ e.sizeCode ≠ 0 ∨ e.slotCount ≠ 0 ∨ e.reserved ≠ 0 ∨ e.base ≠ 0))

/-- Some other enabled stream of the table as a PLAN would leave it. -/
def OtherPlanned (s : State) (entries : List PlanEntry) (e : PlanEntry) (f : Stream → Prop) : Prop :=
  ∃ j < 16, j ≠ e.stream ∧ (plannedStream s entries j).enabled = true ∧ f (plannedStream s entries j)

/-- The ring of a SET shares a byte with another enabled ring or the intake window (R164). -/
def PlanOverlaps (s : State) (entries : List PlanEntry) (e : PlanEntry) : Prop :=
  e.action = 1 ∧
    ((e.base < 2 ^ 30 * s.intakeSel.toNat + 0x10000
        ∧ 2 ^ 30 * s.intakeSel.toNat < e.base + e.slotCount * 2 ^ (19 + e.sizeCode))
      ∨ OtherPlanned s entries e (fun u => ¬ RingsApart (plannedStream s entries e.stream) u))

/-- The bound source of a SET is another enabled stream's (R164). -/
def PlanSharesSource (s : State) (entries : List PlanEntry) (e : PlanEntry) : Prop :=
  e.action = 1 ∧ OtherPlanned s entries e (fun u => u.source = e.source)

/-- A SET lowers its stream's reserved trackers (R165). -/
def PlanShrinks (s : State) (e : PlanEntry) : Prop := e.action = 1 ∧ e.reserved < (s.stream e.stream).reserved

/-- A SET changes a field of its stream other than the reserved trackers, or enables it (R166, R167). -/
def PlanChanges (s : State) (e : PlanEntry) : Prop :=
  let t := s.stream e.stream
  t.enabled = false ∨ t.source ≠ e.source ∨ t.mode ≠ (if e.mode = 1 then .show else .check) ∨ t.sizeCode ≠ e.sizeCode
    ∨ t.slotCount ≠ e.slotCount ∨ t.base ≠ e.base

/-- A SET changes a busy stream (R166). -/
def PlanMeetsBusy (s : State) (e : PlanEntry) : Prop :=
  e.action = 1 ∧ (∃ st sh, s.lease e.stream = .serving st sh) ∧ PlanChanges s e

/-- The reserved trackers of the table as a PLAN would leave it (R165). -/
def plannedReserve (s : State) (entries : List PlanEntry) : Nat :=
  ((List.range 16).map (fun i => (plannedStream s entries i).reserved)).sum

/-- A PLAN passes every check (R161 to R166). -/
def PlanPasses (s : State) (c : PlanCommon) (entries : List PlanEntry) : Prop :=
  s.trip.latch = .normal ∧ s.plan.revision < c.revision ∧ ¬ PlanCommonFails c entries.length
    ∧ (entries.map (fun e => e.stream)).Nodup ∧ plannedReserve s entries ≤ 44
    ∧ ∀ e ∈ entries, ¬ PlanFieldsFail e ∧ ¬ PlanOverlaps s entries e ∧ ¬ PlanSharesSource s entries e
        ∧ ¬ PlanShrinks s e ∧ ¬ PlanMeetsBusy s e

/-- The cause and entry index with which a PLAN fails its first check (R161 to R166). -/
def PlanRefused (s : State) (c : PlanCommon) (entries : List PlanEntry) (cause : RefusalCause) (index : BitVec 16) :
    Prop :=
  let first (test : Nat → PlanEntry → Prop) : Prop :=
    ∃ i e, index = BitVec.ofNat 16 i ∧ FirstEntry entries test i e
  let onEntries (test : PlanEntry → Prop) (found : RefusalCause) : Prop × Prop :=
    (∃ e ∈ entries, test e, cause = found ∧ first (fun _ => test))
  FirstCheck
    [(s.trip.latch ≠ .normal, cause = .tripped ∧ index = 0xFFFF),
     (c.revision ≤ s.plan.revision, cause = .stale ∧ index = 0xFFFF),
     (PlanCommonFails c entries.length, cause = .badField ∧ index = 0),
     (¬ (entries.map (fun e => e.stream)).Nodup,
       cause = .duplicateEntry ∧ first (fun i e => ∃ a ∈ entries.take i, a.stream = e.stream)),
     onEntries PlanFieldsFail .badField,
     onEntries (PlanOverlaps s entries) .overlap,
     onEntries (PlanSharesSource s entries) .dupSource,
     (44 < plannedReserve s entries, cause = .trackers ∧ index = 0xFFFF),
     onEntries (PlanShrinks s) .shrink,
     onEntries (PlanMeetsBusy s) .streamBusy]

/-! ## The terms of the statements about trips -/

/-- A beat of a response at a trip: one decided PLAIN in SHOW mode is the fill pattern with OKAY, any other stays (R109;
log 46). -/
def OutBeat.erased (fill : Beat) (b : OutBeat) : OutBeat :=
  if b.plain then { data := fill, response := .okay, plain := false } else b

/-- A request of the lists after a trip: of a burst past its decision the PLAIN beats not yet returned are erased, and a
DECIDED or IN_LANE one is RETURNING, without its key value (R109). -/
def Entry.erased (fill : Beat) (e : Entry) : Entry :=
  let response := e.response.take e.returned ++ (e.response.drop e.returned).map (OutBeat.erased fill)
  let returning (t : Tracker) : Entry :=
    { e with response := response, state := .composed, kind := .cipher { t with state := .returning, inputs := none } }
  match e.kind with
  | .cipher t =>
    match t.state with
    | .awaitingMemory => e
    | .decided => returning t
    | .inLane => returning t
    | .returning => { e with response := response }
  | .span => e
  | .passThrough => e
  | .write _ => e

/-- The cell and the fields of the parcel under verification, in READING or CHECKING (R141, R142). -/
def Verifier.parcel : Verifier → Option (Nat × Captured)
  | .reading cell captured buffer =>
    some (cell, if buffer = [] then captured else capturedFields (buffer.headD 0))
  | .checking cell buffer => some (cell, capturedFields (buffer.headD 0))
  | .idle => none
  | .withOwner _ _ => none
  | .draining => none

/-- The queue's entries of kind TIME, which a trip leaves (R142). -/
def State.timeEntries (s : State) : List QueueEntry :=
  s.intake.queue.filter (fun e => decide (e.fields.kind = 0x04))

/-- The parcels that a trip refuses: the one under verification, then those of the queue, none of kind TIME (R142). -/
def State.tripRefused (s : State) : List (Nat × Captured) :=
  (s.intake.verifier.parcel.toList ++ s.intake.queue.map (fun e => (e.cell, e.fields))).filter
    (fun p => decide (p.2.kind ≠ 0x04))

/-- The records of a trip in their order: TRIPPED, the LEASE_ENDED of each lease ended in ascending stream number, and
the PARCEL_REFUSED of each parcel refused (R73, R142, R176). -/
def State.tripRecords (s : State) (tripped : Record) : List Record :=
  tripped ::
    (List.range 16).filterMap (fun i =>
      match s.lease i with
      | .serving _ sh => some (recordOfEnd s.recordSeconds i .tripped sh)
      | .idle => none
      | .refused _ _ => none)
    ++ s.tripRefused.map (fun p => refusedRecord s p.2 p.1 .tripped 0xFFFF)

/-- What a trip leaves of the intake unit: the pending commits, the queue's TIME entries, and the verification but for
one of another kind in READING or CHECKING, which ends (R142). -/
def TripIntake (s t : State) : Prop :=
  let refuses (p : Option (Nat × Captured)) : Bool := p.any (fun p => decide (p.2.kind ≠ 0x04))
  t.intake.commits = s.intake.commits
    ∧ (s.intake.verifier = .idle → TakesHead t s.timeEntries)
    ∧ (s.intake.verifier ≠ .idle → refuses s.intake.verifier.parcel = false →
        t.intake.verifier = s.intake.verifier ∧ t.intake.queue = s.timeEntries)
    ∧ (refuses s.intake.verifier.parcel = true →
        (∀ cell captured buffer, s.intake.verifier = .reading cell captured buffer → ReadingEnds s t s.timeEntries)
        ∧ ∀ cell buffer, s.intake.verifier = .checking cell buffer → TakesHead t s.timeEntries)

/-- The LEASE_HELD records of the hold notice, in ascending stream number (R69). -/
def State.holdRecords (s : State) : List Record :=
  let held (i : Nat) (saved : SavedState) (sh : Show) : Record :=
    recordOfShow s.recordSeconds .leaseHeld 0 i sh.tag (saved.code.setWidth 32) 0 0
  (List.range 16).filterMap (fun i =>
    match s.lease i with
    | .serving .running sh => some (held i .running sh)
    | .serving .overrun sh => some (held i .overrun sh)
    | .serving (.held _ _) _ => none
    | .idle => none
    | .refused _ _ => none)

/-! ## The terms of the statements about writes -/

/-- The address of beat k of a burst (R114). -/
def beatAt (address : BitVec 36) (k : Nat) : Nat := address.toNat / 16 * 16 + 16 * k

/-- The tests of R82 on the 64 bytes of a frame header, in their order, each true where it fails. -/
def headerTests (bytes : List Byte) (slotSize : Nat) : List Bool :=
  let length := field bytes 18 4
  [field bytes 0 2 != 0xA51C, field bytes 2 1 != 1, decide (2 ≤ field bytes 3 1),
   field bytes 4 2 == 0 && field bytes 3 1 % 2 == 0,
   length % 16 != 0 || decide (length < 16) || decide (slotSize - 64 < length), field bytes 22 42 != 0]

/-- The fields of a frame header as its 64 bytes carry them (R82, 12.2). -/
def headerFields (bytes : List Byte) : Header :=
  { clear := decide (field bytes 3 1 % 2 = 1), tag := BitVec.ofNat 16 (field bytes 4 2)
    keyId := BitVec.ofNat 32 (field bytes 6 4), feature := BitVec.ofNat 32 (field bytes 10 4)
    frameIndex := BitVec.ofNat 32 (field bytes 14 4), payloadLength := field bytes 18 4 }

/-- What the frame monitor keeps of the youngest request of the lists (R79). -/
def State.youngestKept (s : State) : Option Kept :=
  match s.path.entries.getLast? with
  | none => none
  | some e => match e.kind with
    | .write info => info.kept
    | .span => none
    | .passThrough => none
    | .cipher _ => none

/-- Beat k of a burst lies in a parcel cell (R130). -/
def State.inCell (s : State) (address : BitVec 36) (k cell : Nat) : Bool :=
  decide (cell < 32 ∧ 2 ^ 30 * s.intakeSel.toNat + 0x400 * cell ≤ beatAt address k
    ∧ beatAt address k < 2 ^ 30 * s.intakeSel.toNat + 0x400 * cell + 0x400)

/-- A burst writes a parcel cell: a beat of it in the cell has a strobe set (R131). -/
def State.writesCell (s : State) (w : WriteRequest) (cell : Nat) : Bool :=
  (List.range w.beats.length).any (fun k =>
    s.inCell w.address k cell && (w.beats[k]?).any (fun b => decide (b.strobes ≠ 0)))

/-- The pending commits a burst begins, under a tag: that of each beat 0 of a cell with all strobes set (R130). -/
def State.commitsOf (s : State) (w : WriteRequest) (tag : Nat) : List PendingCommit :=
  (List.range 32).filterMap (fun cell =>
    (((List.range w.beats.length).zip w.beats).find? (fun b =>
        decide (beatAt w.address b.1 = 2 ^ 30 * s.intakeSel.toNat + 0x400 * cell ∧ b.2.strobes = 0xFFFF))).map
      (fun b =>
        { cell := cell, tag := tag, source := w.source, okay := false
          fields := { number := b.2.data.extractLsb' 48 32, kind := b.2.data.extractLsb' 24 8
                      length := b.2.data.extractLsb' 32 16 } }))

/-- The value that a burst holds pending for the consumer index: bytes 0 and 1 of its beat at the consumer beat's
address, if it has one and both strobes are set (R116, R184). -/
def State.pendingConsumer (s : State) (address : BitVec 36) (beats : List WriteBeat) : Option (BitVec 16) :=
  (((List.range beats.length).zip beats).find? (fun b =>
      decide (beatAt address b.1 = 2 ^ 30 * s.intakeSel.toNat + 0x8010))).bind (fun b =>
    if b.2.strobes.getLsbD 0 = true ∧ b.2.strobes.getLsbD 1 = true then some (b.2.data.extractLsb' 0 16) else none)

/-- The fields that name the parcel of a cell in the queue, under verification, or of a pending commit (R141). -/
def State.heldFields (s : State) (cell : Nat) : Option Captured :=
  ((s.intake.queue.find? (fun e => decide (e.cell = cell))).map (fun e => e.fields)).or <|
  ((s.intake.commits.find? (fun c => decide (c.cell = cell))).map (fun c => c.fields)).or <|
  match s.intake.verifier with
  | .reading c captured buffer =>
    if c = cell then some (if buffer = [] then captured else capturedFields (buffer.headD 0)) else none
  | .checking c buffer => if c = cell then some (capturedFields (buffer.headD 0)) else none
  | .idle => none
  | .withOwner _ _ => none
  | .draining => none

/-- The TORN records of a burst, in ascending cell order (R131; log 35). -/
def State.tornRecords (s : State) (w : WriteRequest) : List Record :=
  (List.range 32).filterMap (fun cell =>
    if s.writesCell w cell then (s.heldFields cell).map (fun f => refusedRecord s f cell .torn 0xFFFF) else none)

/-- The place of a write burst's first beat in a slot that it touches (R89). -/
def FirstTouch (s : State) (w : WriteRequest) (p : RingPlace) : Prop :=
  ∃ k < w.beats.length, s.ringPlace (beatAt w.address k) = some p
    ∧ ∀ j < k, ∀ q, s.ringPlace (beatAt w.address j) = some q → (q.stream, q.slot) ≠ (p.stream, p.slot)

/-- Every slot that a burst over slot boundaries touches and that is not BROKEN breaks SPAN, and the other records
stay (R89). -/
def SpanBreaks (s t : State) (w : WriteRequest) : Prop :=
  (∀ p, FirstTouch s w p →
      let f := s.frame p.stream p.slot
      ((∃ c o h, f.state = .broken c o h) → t.frame p.stream p.slot = f)
      ∧ ((∀ c o h, f.state ≠ .broken c o h) →
          t.frame p.stream p.slot =
            { state := .broken .span f.state.writer f.state.parsed, generation := f.generation }))
    ∧ ∀ i j, (∀ p, FirstTouch s w p → (i, j) ≠ (p.stream, p.slot)) → t.frame i j = s.frame i j

/-- The FRAME_BROKEN records of a burst over slot boundaries, in the order of its beats (R89, R90). -/
def SpanRecords (s : State) (w : WriteRequest) (records : List Record) : Prop :=
  ∃ places : List RingPlace, (∀ p, p ∈ places ↔ FirstTouch s w p)
    ∧ places.Pairwise (fun p q => ∃ j k, j < k ∧ s.ringPlace (beatAt w.address j) = some p
        ∧ s.ringPlace (beatAt w.address k) = some q)
    ∧ records = places.filterMap (fun p =>
        let f := s.frame p.stream p.slot
        match f.state with
        | .broken _ _ _ => none
        | _ => some (recordOfBreak s.recordSeconds p.stream p.slot .span f.state.writer f.state.parsed w.source p.offset))

/-- An earlier write of a pending commit's source into its cell is still unanswered when memory answers a tag (R130). -/
def State.waitsForEarlier (s : State) (tag : Nat) (c : PendingCommit) : Bool :=
  s.path.entries.any (fun g => match g.kind with
    | .write i =>
      decide (g.source = c.source ∧ g.tag < c.tag ∧ g.tag ≠ tag ∧ g.state ≠ .composed) && i.cells.contains c.cell
    | .span => false
    | .passThrough => false
    | .cipher _ => false)

/-- The pending commits once memory has answered a tag: its own commit is marked OKAY, or discarded (R130). -/
def State.commitsAnswered (s : State) (tag : Nat) (response : Response) : List PendingCommit :=
  match response with
  | .okay => s.intake.commits.map (fun (c : PendingCommit) => if c.tag = tag then { c with okay := true } else c)
  | .slverr => s.intake.commits.filter (fun (c : PendingCommit) => decide (c.tag ≠ tag))

/-- A request is offered to the part (R114). -/
def offer : Request → Instr
  | .read r => .readAccept r
  | .write w => .writeAccept w

/-! ## The terms of the statements about reads -/

/-- A cipher-path read of a tracker waits for a number of beats of memory under a tag (R99, R120). -/
def Awaits (s : State) (tag : Nat) (t : Tracker) (n : Nat) : Prop :=
  ∃ e, s.entry tag = some e ∧ e.kind = .cipher t ∧ e.state = .atMemory ∧ t.state = .awaitingMemory ∧ e.length = n

/-- Memory answers every beat OKAY. -/
def AllOkay (beats : List ReadBeat) : Prop := ∀ b ∈ beats, b.response = .okay

/-- The frame of a tracker's slot passes tests 1 to 4 with this header (R53). -/
def Readable (s : State) (t : Tracker) (h : Header) : Prop :=
  s.trip.latch = .normal ∧ (s.stream t.stream).generation = t.streamGeneration
    ∧ (s.frame t.stream t.slot).generation = t.slotGeneration
    ∧ ∃ writer, (s.frame t.stream t.slot).state = .ready writer h

/-- How many of n beats from a first offset lie in the payload of a frame (R53). -/
def payloadCount (h : Header) (first n : Nat) : Nat :=
  (List.range n).countP (fun i => decide (4 ≤ first + i ∧ first + i < 4 + h.payloadLength / 16))

/-- The response of a decided burst: header beats as memory gave them, payload beats by their outcome, fill beyond
(R96). -/
def composed (fill : Beat) (h : Header) (first : Nat) (data : List Beat) (payload : Beat → OutBeat) : List OutBeat :=
  (((List.range data.length).map (fun i => first + i)).zip data).map (fun b =>
    if b.1 < 4 then { data := b.2, response := .okay, plain := false }
    else if b.1 < 4 + h.payloadLength / 16 then payload b.2
    else { data := fill, response := .okay, plain := false })

/-- The lease of a stream before a burst that opens a new show on it: IDLE, or REFUSED for another show, or for the same
show under another generation of the key table (R55, R58). -/
def MayOpen (s : State) (stream : Nat) (tag : BitVec 16) : Prop :=
  s.lease stream = .idle
    ∨ ∃ old refusal, s.lease stream = .refused old refusal
        ∧ (old ≠ tag ∨ refusal.generation ≠ s.keys.generation)

/-- A key in a slot once a lease of a key list has ended: a WITHDRAWN one that no lease lists any more is freed (R27).
-/
def handedBack (t : State) (ended : List KeyId) (k : Key) : Option Key :=
  if k.state = .withdrawn ∧ k.keyId ∈ ended ∧ t.anyLists k.keyId = false then none else some k

/-- A burst of the lists is DECIDED (R99). -/
def Entry.isDecided (e : Entry) : Prop := ∃ t, e.kind = .cipher t ∧ t.state = .decided

/-- A candidate for a lane: a DECIDED burst with no older DECIDED burst of its source (R103). -/
def Candidate (s : State) (e : Entry) : Prop :=
  e.isDecided ∧ ∃ older younger, s.path.entries = older ++ e :: younger
    ∧ ∀ f ∈ older, f.source = e.source → ¬ f.isDecided

/-- The PLAIN beats of a burst: their places in it, their payload beat numbers and their ciphertext (R100). -/
def plainBeats (firstOffset : Nat) (response : List OutBeat) : List LaneBeat :=
  ((List.range response.length).zip response).filterMap (fun b =>
    if b.2.plain then
      some { place := b.1, number := BitVec.ofNat 32 (firstOffset + b.1 - 4), ciphertext := b.2.data }
    else none)

/-- The request under a tag is answered: COMPOSED with a response, its tracker RETURNING without lane inputs (R99). -/
def State.answered (s : State) (tag : Nat) (response : List OutBeat) : State :=
  s.editEntry tag (fun f =>
    { f with response := response, state := .composed
             kind := f.kind.editTracker (fun t => { t with state := .returning, inputs := none }) })

/-- The request under a tag waits for a lane with a response and the lane's inputs (R99, R100). -/
def State.awaitsLane (s : State) (tag : Nat) (response : List OutBeat) (key : KeyValue) (frameIndex : BitVec 32) :
    State :=
  s.editEntry tag (fun f =>
    { f with response := response
             kind := f.kind.editTracker (fun t =>
               { t with state := .decided, inputs := some { key := key, frameIndex := frameIndex } }) })

end Sys2Proof.Machine
end

