-- ==== Sys2Proof/Certificates/Slice0/Obligations.lean ====
section
/-! DEFINITION. The statements for the provers, in the order of OBLIGATIONS.json: the step and reset; trips; time;
the ports; decisions and lanes; parcels; reports; and the laws that every step keeps. -/

section Slice0
open Sys2Proof Sys2Proof.Machine

/-! ## The step -/

/-- A step of a state with a command in front is that command on the state with the queue's rest. -/
def Obligations.StepTakesFrontCommand : Prop :=
  ∀ (c : Instr) (s : State), step { s with pending := c :: s.pending } = exec c s

/-- With no command waiting, one unit of reference time passes (the model's choice, log 3): the reading of a clock
that runs rises by 1/65536 s within a second, and nothing happens to a clock that is UNSET or lost (R30). -/
def Obligations.EmptyQueuePassesTime : Prop :=
  ∀ s : State, s.pending = [] →
    step s = .next s.idle
    ∧ (s.clock.state = .unset ∨ s.power.markIntact = false → s.idle = s.presentReport)
    ∧ (s.power.markIntact = true → s.clock.state ≠ .unset → s.clock.hold = false → s.clock.remainder = 0 →
        s.clock.reading ≤ 2 ^ 56 - 1 → s.clock.reading % 65536 + 1 < 65536 →
        s.idle = (s.setClock { s.clock with reading := s.clock.reading + 1 }).presentReport)

/-- Every well-formed command answers a next state, and leaves the queue and the fuses; an ill-formed term is
refused. -/
def Obligations.CommandsAnswer : Prop :=
  ∀ (i : Instr) (s : State),
    (i.wellFormed = true → ∃ t, exec i s = .next t ∧ t.pending = s.pending ∧ t.fuses = s.fuses)
    ∧ (i.wellFormed = false → exec i s = .refused .illFormed)

/-! ## Resets and supplies -/

/-- The state after a cold power-up after standby loss holds every value the reset tables give: the validity mark is
set and TRIP_OUT high. The strap INTAKE_SEL, sampled 0, and the level of TAMPER_N, DEASSERTED, are the model's choice
(log 5). -/
def Obligations.ResetValues : Prop :=
  let s := State.reset
  s.power = { main := .up, markIntact := true }
  ∧ s.keys = { slots := List.replicate 128 none, generation := 0 }
  ∧ s.leases = List.replicate 16 .idle
  ∧ s.frames = List.replicate 16 (List.replicate 64 { state := .vacant, generation := 0 })
  ∧ s.engine = { lanes := List.replicate 4 none, lastGranted := 15 }
  ∧ s.path.entries = [] ∧ s.path.heads = [] ∧ s.path.behind = []
  ∧ s.internal = { waiting := [], grants := 0, atMemory := [] }
  ∧ s.intake = { commits := [], queue := [], verifier := .idle }
  ∧ s.plan.revision = 0 ∧ s.plan.fill = 0 ∧ s.plan.arbitration = .rotating
  ∧ s.plan.streams = List.replicate 16
      { enabled := false, source := 0, mode := .show, sizeCode := 0, slotCount := 4, base := 0, reserved := 0,
        generation := 0 }
  ∧ s.report.staging =
      [{ kind := .resetDone, cause := 0, stream := 0xFF, subject := 0, seconds := 0, data0 := 3, data1 := 0,
         data2 := 0, index := 0xFFFF },
       { kind := .tripped, cause := 3, stream := 0xFF, subject := 0, seconds := 0, data0 := 1, data1 := 3,
         data2 := 0, index := 0xFFFF }]
  ∧ s.report.producer = 0 ∧ s.report.consumer = 0 ∧ s.report.lost = false ∧ s.report.statusPending = false
  ∧ s.report.identityPending = true ∧ s.attn = false
  ∧ s.clock = { reading := 0, state := .unset, remainder := 0, timer := 0, hold := false, budget := 48, day := 0,
                dayOffset := 0, suspectCount := 0 }
  ∧ s.revocations = [] ∧ s.trip = { latch := .tripped .standbyLost, tamper := .deasserted }
  ∧ s.tripOut = some true ∧ s.intakeSel = 0

/-- WARM_RESET: while RESET_N is asserted the main domain stands at its reset values with nothing staged; at its
release INTAKE_SEL is sampled and RESET_DONE, then TRIPPED AT_RESET while the latch is TRIPPED, are staged; the
standby domain goes on, its PENDING revocations settled (R146). A pulse does both. That no other case changes
anything (a release while not asserted, an assertion in reset, any line without VMAIN) is the model's (log 2, log 27),
and so are the two moments (log 10) and the subject 0 of an AT_RESET record (log 37). -/
def Obligations.WarmResetResults : Prop :=
  ∀ (s : State) (sel : BitVec 2),
    (s.power.main = .up →
      exec (.warmReset (.pulse sel)) s = .next (s.resetTo .up sel (s.recordsAfterReset 1 3 sel))
      ∧ exec (.warmReset .assert) s = .next (s.resetTo .inReset s.intakeSel [])
      ∧ exec (.warmReset (.release sel)) s = .next s)
    ∧ (s.power.main = .inReset →
        (∀ line : ResetLine, line = .release sel ∨ line = .pulse sel →
          exec (.warmReset line) s = .next
            { s with power := { s.power with main := .up }, intakeSel := sel
                     report := { staging := s.recordsAfterReset 1 3 sel, producer := 0, consumer := 0, lost := false,
                                 statusPending := false, identityPending := true } })
        ∧ exec (.warmReset .assert) s = .next s)
    ∧ (s.power.main = .off → ∀ line : ResetLine, exec (.warmReset line) s = .next s)

/-- COLD_POWER_UP: with the mark intact the standby domain stands as it was; with the mark lost the clock is
initialised, the list is empty and the part is TRIPPED with cause STANDBY_LOST. That with VMAIN present nothing
happens is the model's (log 2), and so are the one act, the level taken and the subject 0 of an AT_RESET record
(log 27, log 31, log 37). -/
def Obligations.ColdPowerUpResults : Prop :=
  ∀ (s : State) (tamper : TamperLevel) (sel : BitVec 2),
    (s.power.main ≠ .off → exec (.coldPowerUp tamper sel) s = .next s)
    ∧ (s.power.main = .off → s.power.markIntact = true →
        exec (.coldPowerUp tamper sel) s = .next (s.resetTo .up sel (s.recordsAfterReset 2 3 sel)))
    ∧ (s.power.main = .off → s.power.markIntact = false →
        let lost : State :=
          { s with
            clock := { reading := 0, state := .unset, remainder := 0, timer := 0, hold := false, budget := 48,
                       day := 0, dayOffset := 0, suspectCount := 0 }
            revocations := [], trip := { latch := .tripped .standbyLost, tamper := tamper }
            power := { s.power with markIntact := true } }
        exec (.coldPowerUp tamper sel) s = .next (lost.resetTo .up sel (lost.recordsAfterReset 3 1 sel)))

/-- VMAIN_LOSS takes the main domain down and leaves the standby domain; STANDBY_LOSS, which comes with VMAIN absent,
loses the validity mark. What the lost records then read as is the model's choice (log 11, log 12): nothing reads
them before the power-up that initialises them. -/
def Obligations.SupplyLossResults : Prop :=
  ∀ s : State,
    exec .vmainLoss s = .next { s with power := { s.power with main := .off } }
    ∧ (s.power.main = .off →
        exec .standbyLoss s = .next
          { s with
            power := { s.power with markIntact := false }
            clock := { reading := 0, state := .unset, remainder := 0, timer := 0, hold := false, budget := 48,
                       day := 0, dayOffset := 0, suspectCount := 0 }
            revocations := [], trip := { latch := .tripped .standbyLost, tamper := s.trip.tamper } })
    ∧ (s.power.main ≠ .off → exec .standbyLoss s = .next s)

/-! ## Trips -/

/-- TAMPER_ASSERT while NORMAL trips the part in one act: the latch records TAMPER, every slot is EMPTY, every lease
IDLE, every lane FREE, and each beat decided PLAIN in SHOW mode (CHECK mode: log 46) and not yet returned is the fill
pattern with OKAY, every other beat staying; a DECIDED or IN_LANE burst is RETURNING without its key value. Of the
revocation list a LISTED entry stays, and a PENDING one is LISTED if its retain-until lies after now and gone
otherwise. The queue keeps its TIME entries, and a verification in READING or CHECKING of another kind ends. The
records are, in this order, TRIPPED of occasion FIRST with the number of slots erased, LEASE_ENDED TRIPPED of each
lease ended, and PARCEL_REFUSED TRIPPED of each parcel refused. TRIP_OUT goes high in the same act. -/
def Obligations.TamperTripsThePart : Prop :=
  ∀ s : State, s.power.main = .up → s.power.markIntact = true → s.trip.tamper = .deasserted →
    s.trip.latch = .normal → KeyTableLaw s → RevocationLaw s → LeaseLaw s → TagLaw s →
    ∃ t, exec .tamperAssert s = .next t
      ∧ t.trip = { latch := .tripped .tamper, tamper := .asserted }
      ∧ Stopped t ∧ t.path.entries = s.path.entries.map (Entry.erased s.plan.fill)
      ∧ s.tripOut = some false ∧ t.tripOut = some true
      ∧ t.keys.generation = s.keys.generation ∧ t.engine.lastGranted = s.engine.lastGranted
      ∧ t.revocations = s.revocations.filterMap (settledEntry (s.clock.reading / 65536))
      ∧ TripIntake s t
      ∧ t.report.statusPending = true
      ∧ HandsOver s.report t.report (s.tripRecords
          { kind := .tripped, cause := 1, stream := 0xFF, subject := 0, seconds := s.recordSeconds, data0 := 1,
            data1 := 1, data2 := BitVec.ofNat 32 s.slotsInUse, index := 0xFFFF })
      ∧ Touches [.trip, .entries, .engine, .leases, .keys, .revocations, .counters, .waiting, .intake, .report,
          .status] s t

/-- The other cases of TAMPER_N. Asserted while TRIPPED it is a REPEAT that keeps the recorded
cause and takes the act again on what it finds, parcels committed since among it (R178); while the
main domain is down it acts on the latch alone (R177); an assertion that is no change, or without an intact standby
domain (R171), changes nothing, which is the model's (log 2). Deasserted, it changes the level alone. TRIP_OUT shows the
latch at every moment VMAIN is present, in reset too, and what it is without VMAIN is the model's (log 25). -/
def Obligations.TamperOtherwise : Prop :=
  (∀ s : State, s.tripOut = if s.power.main = .off then none else some (decide (s.trip.latch ≠ .normal)))
  ∧ ∀ s : State,
    (s.power.markIntact = true → s.trip.tamper = .deasserted → s.power.main ≠ .up →
      exec .tamperAssert s = .next
        { s with trip := { latch := if s.trip.latch = .normal then .tripped .tamper else s.trip.latch
                           tamper := .asserted } })
    ∧ (∀ recorded, s.power.markIntact = true → s.trip.tamper = .deasserted → s.power.main = .up →
        s.trip.latch = .tripped recorded →
        ∃ t, exec .tamperAssert s = .next t
          ∧ t.trip = { latch := .tripped recorded, tamper := .asserted }
          ∧ t.path.entries = s.path.entries.map (Entry.erased s.plan.fill) ∧ TripIntake s t
          ∧ (KeyTableLaw s → RevocationLaw s →
              t.revocations = s.revocations.filterMap (settledEntry (s.clock.reading / 65536)))
          ∧ HandsOver s.report t.report (s.tripRecords
              { kind := .tripped, cause := 1, stream := 0xFF, subject := 0, seconds := s.recordSeconds, data0 := 2,
                data1 := recorded.code.setWidth 32, data2 := 0, index := 0xFFFF })
          ∧ (TripLaw s →
              Stopped t ∧ t.keys = s.keys ∧ t.leases = s.leases ∧ t.revocations = s.revocations
              ∧ t.path.entries = s.path.entries)
          ∧ Touches [.trip, .entries, .engine, .leases, .keys, .revocations, .counters, .waiting, .intake, .report] s t)
    ∧ (s.power.markIntact = false ∨ s.trip.tamper = .asserted →
        exec .tamperAssert s = .next s.presentReport)
    ∧ (s.power.markIntact = true →
        exec .tamperDeassert s = .next ({ s with trip := { s.trip with tamper := .deasserted } }).presentReport)
    ∧ (s.power.markIntact = false → exec .tamperDeassert s = .next s.presentReport)

/-- TRIP_TEST: with a zero body while NORMAL the part trips with cause TRIP_TEST, with the beats, queue, revocation
list and records of a trip as TAMPER_ASSERT has them, and the parcel is TAKEN with the cause, the slots erased and the
leases ended; while TRIPPED it is refused TRIPPED, and with a nonzero body BAD_FIELD, and nothing else happens. -/
def Obligations.TripTestResults : Prop :=
  ∀ (s : State) (p : Dispatched), s.dispatched .tripTest = some p →
    (s.trip.latch = .normal → field p.bytes 16 16 = 0 → KeyTableLaw s → LeaseLaw s → TagLaw s →
      ∃ t, exec .tripTest s = .next t
        ∧ t.trip = { latch := .tripped .tripTest, tamper := s.trip.tamper } ∧ Stopped t
        ∧ t.path.entries = s.path.entries.map (Entry.erased s.plan.fill)
        ∧ t.intake.commits = s.intake.commits ∧ TakesHead t s.timeEntries ∧ t.report.statusPending = true
        ∧ (RevocationLaw s → t.revocations = s.revocations.filterMap (settledEntry (s.clock.reading / 65536)))
        ∧ HandsOver s.report t.report (s.tripRecords
            { kind := .tripped, cause := 2, stream := 0xFF, subject := p.fields.number, seconds := s.recordSeconds,
              data0 := 1, data1 := 2, data2 := BitVec.ofNat 32 s.slotsInUse, index := 0xFFFF }
            ++ [takenRecord s p 2 (BitVec.ofNat 32 s.slotsInUse) (BitVec.ofNat 32 s.busyLeases)])
        ∧ t.keys.generation = s.keys.generation ∧ t.engine.lastGranted = s.engine.lastGranted
        ∧ Touches [.trip, .entries, .engine, .leases, .keys, .revocations, .counters, .waiting, .intake, .report,
          .status] s t)
    ∧ (∀ cause index, (s.trip.latch ≠ .normal ∧ cause = .tripped ∧ index = 0xFFFF
          ∨ s.trip.latch = .normal ∧ field p.bytes 16 16 ≠ 0 ∧ cause = .badField ∧ index = 0) →
        ∃ t, exec .tripTest s = .next t
          ∧ t.report = s.report.stage (refusedRecord s p.fields p.cell cause index)
          ∧ OwnerDone s t ∧ Touches [.counters, .waiting, .intake, .report] s t)

/-! ## The clock -/

/-- ANNOUNCEMENT: the reading comes to the next whole second, the day is evaluated, passed LISTED revocations leave,
the entries of freed WITHDRAWN slots are settled, every other entry stays, and with the main domain up no lease past
its hard end is left; with it down, only the clock and the list change. -/
def Obligations.AnnouncementResult : Prop :=
  ∀ (s : State) (d : Nat), SecondDue s d →
    ∃ t, exec .announcement s = .next t
      ∧ t.clock.reading = 65536 * (s.clock.reading / 65536 + 1)
      ∧ t.clock.timer = (if s.clock.remainder = 0 then s.clock.timer else s.clock.timer + d)
      ∧ t.clock.remainder = s.clock.remainder ∧ t.clock.hold = false ∧ t.clock.state = s.clock.state
      ∧ t.clock.dayOffset = s.clock.dayOffset
      ∧ t.clock.dayFields = dayEvaluated (s.clock.reading / 65536 + 1) s.clock.dayOffset s.clock.day s.clock.budget
          s.clock.suspectCount
      ∧ NonePassed t (s.clock.reading / 65536 + 1)
      ∧ (KeyTableLaw s → t.revocations = s.listAnnounced t (s.clock.reading / 65536 + 1))
      ∧ (s.power.main = .up → s.leases.length = 16 →
          ∀ st sh, Lease.serving st sh ∈ t.leases → s.clock.reading / 65536 + 1 < sh.hardEnd)
      ∧ (s.power.main ≠ .up → Touches [.clock, .revocations] s t)
      ∧ Touches [.clock, .keys, .leases, .revocations, .report, .draws, .counters, .waiting] s t

/-- An ANNOUNCEMENT takes every boundary the reading has reached, each WAITING key at not-before, each OPEN key at
not-after, each CLOSED or WITHDRAWN key at its freeing time: it opens, closes or frees the slot, raises the generation
once for each opening, gives each closing notice once and, on a new day, reloads the DAILY allowances; a RUNNING lease
that lists a closing key is OVERRUN, a lease at its hard end is IDLE with LEASE_ENDED EXPIRED, each with its record. A
freed WITHDRAWN slot's revocation is settled. While no lease is at its hard end and no RUNNING one lists a closing
key, the records are those of the boundaries in R24's order and then DAY_BEGAN; otherwise each of them is among the
records, KEY_FREED with the cause of the lease's end where a lease was the last to list a WITHDRAWN key. Which
commands take how much time (log 4), the order of the two units (log 8) and the reload's place (log 33) are the
model's. -/
def Obligations.AnnouncementTakesBoundaries : Prop :=
  ∀ (s : State) (d : Nat), SecondDue s d → s.power.main = .up → KeyTableLaw s →
    let now := s.clock.reading / 65536 + 1
    let newDay := decide (s.clock.day < dayNumber now s.clock.dayOffset)
    ∃ t, exec .announcement s = .next t ∧ t.revocations = s.listAnnounced t now
      ∧ (∀ k ∈ t.heldKeys,
          match k.state with
          | .waiting => now < k.notBefore
          | .opened => now < k.notAfter
          | .closed => now < k.notAfter + 60 * k.grace
          | .withdrawn => now < k.notAfter + 60 * k.grace)
      ∧ (s.leases.length = 16 → KeysReach s t now newDay ∧ LeasesReach s t now ∧ BoundaryRecords s t now newDay
          ∧ RecordsReach s t now .byTime newDay)

/-- SLEW_FORWARD_STEP: at a step timer of 8 s the reading rises by 1/8 s beyond its advance, the remainder falls by
1/8 s and is dropped below 1/8 s, and the timer restarts; a step over a whole second announces it, which takes the
boundaries, hard ends, new day and passed revocations it reaches as an ANNOUNCEMENT does (log 4, log 8, log 33). -/
def Obligations.ForwardStepResult : Prop :=
  ∀ s : State, 8192 ≤ s.clock.remainder → s.clock.hold = false → SlewDue s (8 * 65536) →
    ∃ t, exec .slewForwardStep s = .next t
      ∧ t.clock.reading = min (s.clock.reading + (8 * 65536 - s.clock.timer) + 8192) (2 ^ 56 - 1)
      ∧ t.clock.remainder = (if s.clock.remainder - 8192 < 8192 then 0 else s.clock.remainder - 8192)
      ∧ t.clock.timer = 0 ∧ t.clock.hold = false ∧ t.clock.state = s.clock.state
      ∧ t.clock.dayOffset = s.clock.dayOffset
      ∧ (t.clock.reading / 65536 = s.clock.reading / 65536 →
          t.clock.dayFields = s.clock.dayFields ∧ Touches [.clock, .counters, .waiting] s t)
      ∧ (t.clock.reading / 65536 ≠ s.clock.reading / 65536 →
          t.clock.dayFields = dayEvaluated (t.clock.reading / 65536) s.clock.dayOffset s.clock.day s.clock.budget
            s.clock.suspectCount
          ∧ NonePassed t (t.clock.reading / 65536)
          ∧ (KeyTableLaw s → t.revocations = s.listAnnounced t (t.clock.reading / 65536))
          ∧ (s.power.main = .up → KeyTableLaw s → s.leases.length = 16 →
              let now := t.clock.reading / 65536
              let newDay := decide (s.clock.day < dayNumber now s.clock.dayOffset)
              KeysReach s t now newDay ∧ LeasesReach s t now ∧ BoundaryRecords s t now newDay
                ∧ RecordsReach s t now .byTime newDay))
      ∧ Touches [.clock, .keys, .leases, .revocations, .report, .draws, .counters, .waiting] s t

/-- HOLD_BEGIN at a step timer of 63.875 s stops the reading; BACKWARD_STEP at 64 s ends the hold with the reading
where it stood, raises the remainder by 1/8 s, dropping it above -1/8 s, and charges 1/8 s to the budget, and with
no budget left it drops the remainder instead. -/
def Obligations.BackwardSlewResults : Prop :=
  ∀ s : State, s.clock.remainder ≤ -8192 →
    (s.clock.hold = false → SlewDue s (64 * 65536 - 8192) →
      exec .holdBegin s = .next
        (s.setClock
          { s.clock with
            reading := min (s.clock.reading + (64 * 65536 - 8192 - s.clock.timer)) (2 ^ 56 - 1)
            timer := 64 * 65536 - 8192, hold := true }).presentReport)
    ∧ (s.clock.hold = true → SlewDue s (64 * 65536) →
        exec .backwardStep s = .next
          (s.setClock
            (if s.clock.budget = 0 then { s.clock with remainder := 0, timer := 0, hold := false }
             else
              { s.clock with
                remainder := if -8192 < s.clock.remainder + 8192 then 0 else s.clock.remainder + 8192
                budget := s.clock.budget - 1, timer := 0, hold := false })).presentReport)

/-- A TIME parcel that fails one of the four checks, in their order, is refused with its cause and entry index 0xFFFF,
and nothing else happens: no field of the clock changes. The one parcel left out, the third SUSPECT entry that meets an
assertion of TAMPER_N (R180, log 32), stands in TimeSuspects. -/
def Obligations.TimeRefused : Prop :=
  ∀ (s : State) (p : Dispatched) (cause : RefusalCause), s.dispatched .time = some p →
    (let b := timeBody p.bytes
     if s.trip.latch ≠ .normal ∧ ¬ (b.resync = true ∧ b.clearTrip = true) then some RefusalCause.tripped
     else if 2 ^ 40 ≤ b.seconds ∨ 4 ≤ b.flags ∨ (b.clearTrip = true ∧ b.resync = false) ∨ b.padding ≠ 0 then
       some .badField
     else if s.clock.state = .unset ∧ b.resync = false then some .clockUnset
     else if b.clearTrip = true ∧ s.trip.tamper = .asserted then some .tamperActive
     else none) = some cause →
    ¬ MeetsTamper s (timeBody p.bytes) →
    ∃ t, exec .time s = .next t
      ∧ t.report = s.report.stage (refusedRecord s p.fields p.cell cause 0xFFFF)
      ∧ OwnerDone s t ∧ Touches [.counters, .waiting, .intake, .report] s t

/-- A TIME parcel with an offset of 60 s to 86,400 s jumps the reading to T: the discipline is cleared, the state
stays, the day is evaluated, and one announcement takes the key boundaries, closing notices and hard ends up to T,
each with its record (its order: log 8, log 33). Passed LISTED revocations leave, those of freed WITHDRAWN slots are
settled, and every other stays. CLOCK_STEP comes first, and PARCEL_TAKEN with the offset last, where R46 lets other
blocks' records stand on either side of it (the model's choice, log 9). -/
def Obligations.TimeJumps : Prop :=
  ∀ (s : State) (p : Dispatched), s.dispatched .time = some p →
    let b := timeBody p.bytes
    let d : Int := ((65536 * b.seconds + b.fraction : Nat) : Int) - s.clock.reading
    TimePasses s b → b.resync = false → 60 * 65536 ≤ d → d ≤ 86400 * 65536 →
    ∃ t, exec .time s = .next t
      ∧ t.clock.reading = 65536 * b.seconds + b.fraction ∧ t.clock.undisciplined ∧ t.clock.state = s.clock.state
      ∧ t.clock.dayOffset = s.clock.dayOffset
      ∧ t.clock.dayFields = dayEvaluated b.seconds s.clock.dayOffset s.clock.day s.clock.budget s.clock.suspectCount
      ∧ NonePassed t b.seconds ∧ (KeyTableLaw s → t.revocations = s.listAnnounced t b.seconds)
      ∧ (∃ others : List Record, t.report = s.report.stageAll
          (stepRecord s p .jump :: others ++ [timeRecord s p 1 (BitVec.ofNat 40 b.seconds)]))
      ∧ (KeyTableLaw s → s.leases.length = 16 →
          let newDay := decide (s.clock.day < dayNumber b.seconds s.clock.dayOffset)
          KeysReach s t b.seconds newDay ∧ LeasesReach s t b.seconds ∧ RecordsReach s t b.seconds .bySetting newDay)
      ∧ OwnerDone s t
      ∧ Touches [.clock, .keys, .leases, .revocations, .report, .draws, .counters, .waiting, .intake] s t

/-- A TIME parcel with an offset below 60 s and not below the budget: the remainder becomes the offset, or 0 below
1/8 s; the step timer goes on where old and new remainder have one sign, and a hold goes on in a backward slew; the
record carries the outcome and the offset. Nothing but the discipline changes. -/
def Obligations.TimeSlews : Prop :=
  ∀ (s : State) (p : Dispatched), s.dispatched .time = some p →
    let b := timeBody p.bytes
    let d : Int := ((65536 * b.seconds + b.fraction : Nat) : Int) - s.clock.reading
    TimePasses s b → b.resync = false → s.clock.budget ≤ 48 → -(8192 * s.clock.budget : Int) ≤ d → d < 60 * 65536 →
    ∃ t, exec .time s = .next t
      ∧ t.clock =
          (if d.natAbs < 8192 then { s.clock with remainder := 0, timer := 0, hold := false }
           else
            { s.clock with
              remainder := d
              timer := if (0 < s.clock.remainder ∧ 0 < d) ∨ (s.clock.remainder < 0 ∧ d < 0) then s.clock.timer
                       else 0
              hold := s.clock.hold && decide (d < 0) })
      ∧ t.report = s.report.stage
          (timeRecord s p (if 0 < d then 2 else if d = 0 then 3 else 4) s.recordSeconds)
      ∧ OwnerDone s t ∧ Touches [.clock, .counters, .waiting, .intake, .report] s t

/-- A TIME parcel too far off while RUNNING makes the clock SUSPECT: the reading stays, the discipline is cleared, the
count rises, every RUNNING and OVERRUN lease is HELD from now; at the third count the part trips with SUSPECT_REPEAT,
as a trip does. The records are CLOCK_STATE, LEASE_HELD of each lease held, those of the trip, and last PARCEL_TAKEN
with outcome SUSPECT and the offset, where R46 lets other blocks' records stand on either side of it (the model's
choice, log 9). Of such a third count and an assertion of TAMPER_N either may be first (R180): where the trip came
between the clock's checks and its SUSPECT_REPEAT, the parcel is applied, the recorded cause stays TAMPER and the
SUSPECT_REPEAT is a REPEAT; where it came before the checks, the parcel is refused TRIPPED; which of the two a parcel
taken after TAMPER_ASSERT meets is a free value (the model's choice, log 32). -/
def Obligations.TimeSuspects : Prop :=
  let state (s : State) (p : Dispatched) : Record :=
    { kind := .clockState, cause := 2, stream := 0xFF, subject := p.fields.number, seconds := s.recordSeconds
      data0 := 1, data1 := 0, data2 := 0, index := 0xFFFF }
  let told (s : State) (p : Dispatched) : Record := timeRecord s p 5 s.recordSeconds
  (∀ (s : State) (p : Dispatched), s.dispatched .time = some p → MeetsTamper s (timeBody p.bytes) → TripLaw s →
    ∃ t, exec .time s = .next t ∧ t.draws = s.draws + 1 ∧ t.trip = s.trip ∧ Stopped t
      ∧ (Config.clockChecksFirst s.draws = true →
          t.clock = { s.clock with state := .suspect, remainder := 0, timer := 0, hold := false
                                   suspectCount := 3 }
          ∧ t.intake.commits = s.intake.commits ∧ TakesHead t s.timeEntries ∧ t.report.statusPending = true
          ∧ HandsOver s.report t.report (state s p :: s.tripRecords
              { kind := .tripped, cause := 4, stream := 0xFF, subject := p.fields.number,
                seconds := s.recordSeconds, data0 := 2, data1 := 1, data2 := 0, index := 0xFFFF } ++ [told s p])
          ∧ Touches [.clock, .engine, .counters, .waiting, .intake, .report, .status, .draws] s t)
      ∧ (Config.clockChecksFirst s.draws = false →
          t.report = s.report.stage (refusedRecord s p.fields p.cell .tripped 0xFFFF)
          ∧ OwnerDone s t ∧ Touches [.counters, .waiting, .intake, .report, .draws] s t))
  ∧ ∀ (s : State) (p : Dispatched), s.dispatched .time = some p →
    let b := timeBody p.bytes
    let d : Int := ((65536 * b.seconds + b.fraction : Nat) : Int) - s.clock.reading
    TimePasses s b → b.resync = false → s.clock.state = .running →
    (86400 * 65536 < d ∨ d < -(8192 * s.clock.budget : Int)) → s.leases.length = 16 →
    ∃ t, exec .time s = .next t
      ∧ t.clock = { s.clock with state := .suspect, remainder := 0, timer := 0, hold := false
                                 suspectCount := min (s.clock.suspectCount + 1) 3 }
      ∧ t.report.statusPending = true
      ∧ (s.clock.suspectCount < 2 →
          t.trip = s.trip
          ∧ t.leases = s.leases.map (fun l =>
              match l with
              | .serving .running sh => .serving (.held .running (s.clock.reading / 65536)) sh
              | .serving .overrun sh => .serving (.held .overrun (s.clock.reading / 65536)) sh
              | other => other)
          ∧ HandsOver s.report t.report (state s p :: s.holdRecords ++ [told s p])
          ∧ OwnerDone s t ∧ Touches [.clock, .leases, .counters, .waiting, .intake, .report, .status] s t)
      ∧ (2 ≤ s.clock.suspectCount → KeyTableLaw s → LeaseLaw s → TagLaw s →
          t.trip = { s.trip with latch := .tripped .suspectRepeat } ∧ Stopped t
          ∧ t.path.entries = s.path.entries.map (Entry.erased s.plan.fill)
          ∧ (RevocationLaw s → t.revocations = s.revocations.filterMap (settledEntry (s.clock.reading / 65536)))
          ∧ t.intake.commits = s.intake.commits ∧ TakesHead t s.timeEntries
          ∧ HandsOver s.report t.report (state s p :: s.holdRecords ++ s.tripRecords
              { kind := .tripped, cause := 4, stream := 0xFF, subject := p.fields.number, seconds := s.recordSeconds
                data0 := 1, data1 := 4, data2 := BitVec.ofNat 32 s.slotsInUse, index := 0xFFFF } ++ [told s p])
          ∧ t.keys.generation = s.keys.generation ∧ t.engine.lastGranted = s.engine.lastGranted
          ∧ Touches [.clock, .trip, .entries, .engine, .leases, .keys, .revocations, .counters, .waiting, .intake, .report,
              .status] s t)

/-- R41: a TIME parcel of outcome SUSPECT while SUSPECT leaves the state, the count, the reading and every lease, clears
the discipline, and is taken with that outcome; no CLOCK_STATE record is written and no hold notice is given. -/
def Obligations.TimeSuspectsAgain : Prop :=
  ∀ (s : State) (p : Dispatched), s.dispatched .time = some p →
    let b := timeBody p.bytes
    let d : Int := ((65536 * b.seconds + b.fraction : Nat) : Int) - s.clock.reading
    TimePasses s b → b.resync = false → s.clock.state = .suspect →
    (86400 * 65536 < d ∨ d < -(8192 * s.clock.budget : Int)) →
    ∃ t, exec .time s = .next t
      ∧ t.clock = { s.clock with remainder := 0, timer := 0, hold := false }
      ∧ t.report = s.report.stage (timeRecord s p 5 s.recordSeconds)
      ∧ OwnerDone s t ∧ Touches [.clock, .counters, .waiting, .intake, .report] s t

/-- A RESYNC sets the reading to T in any state and the state to RUNNING with a full budget and no slew; with
CLEAR_TRIP it clears a TRIPPED latch and the count first. A HELD lease is resumed, to its saved state, to OVERRUN or
to its EXPIRED end, one REFUSED for the clock is IDLE, and one announcement takes the key boundaries, closing notices
and hard ends up to T, each with its record (its order: log 8, log 33). Passed LISTED revocations leave, those of
freed WITHDRAWN slots are settled, and every other stays. The day is evaluated. TRIP_CLEARED of a TRIPPED latch,
CLOCK_STEP, and CLOCK_STATE of a state that was not RUNNING come first, in this order, and a change of state or a
cleared cause makes the status beat due; PARCEL_TAKEN with the offset comes last, where R46 lets other blocks' records
stand on either side of it (the model's choice, log 9). The verifier is rid of the parcel. -/
def Obligations.TimeResyncs : Prop :=
  ∀ (s : State) (p : Dispatched), s.dispatched .time = some p →
    let b := timeBody p.bytes
    TimePasses s b → b.resync = true → s.leases.length = 16 →
    ∃ t, exec .time s = .next t
      ∧ t.clock.reading = 65536 * b.seconds + b.fraction ∧ t.clock.undisciplined ∧ t.clock.state = .running
      ∧ t.clock.dayOffset = s.clock.dayOffset
      ∧ t.clock.dayFields = dayEvaluated b.seconds s.clock.dayOffset s.clock.day 48
          (if s.trip.latch = .normal then s.clock.suspectCount else 0)
      ∧ t.trip = { s.trip with latch := .normal }
      ∧ NonePassed t b.seconds ∧ (KeyTableLaw s → t.revocations = s.listAnnounced t b.seconds)
      ∧ (∀ saved since sh, Lease.serving (.held saved since) sh ∉ t.leases)
      ∧ (KeyTableLaw s →
          let newDay := decide (s.clock.day < dayNumber b.seconds s.clock.dayOffset)
          KeysReach s t b.seconds newDay ∧ LeasesResume s t b.seconds ∧ RecordsReach s t b.seconds .bySetting newDay)
      ∧ (∃ others : List Record, t.report =
          { s.report.stageAll (resyncRecords s p ++ others ++ [timeRecord s p 6 (BitVec.ofNat 40 b.seconds)]) with
            statusPending :=
              s.report.statusPending || decide (s.clock.state ≠ .running ∨ s.trip.latch ≠ .normal) })
      ∧ OwnerDone s t
      ∧ Touches [.clock, .keys, .leases, .revocations, .trip, .report, .status, .draws, .counters, .waiting, .intake] s t

/-- The reading never decreases but by a RESYNC and by the loss of the standby domain. -/
def Obligations.ClockNeverDecreases : Prop :=
  ∀ s : State, s.clock.reading ≤ 2 ^ 56 - 1 →
    s.clock.reading ≤ s.idle.clock.reading
    ∧ ∀ (c : Instr) (t : State), exec c s = .next t →
        c ≠ .standbyLoss → (∀ tamper sel, c ≠ .coldPowerUp tamper sel) →
        (c = .time → ∀ p, s.dispatched .time = some p → (timeBody p.bytes).resync = false) →
        s.clock.reading ≤ t.clock.reading

/-! ## The server port and the memory port -/

/-- READ_ACCEPT: a read behind its source's waiting head stays behind it; without a list place or, on the cipher path,
a tracker, it waits as a head; else it joins the lists with its attributes: a span read COMPOSED with SLVERR and fill on
every beat, a pass-through read in ISSUE_WAIT, a cipher-path read in ISSUE_WAIT with a tracker set from the tables. -/
def Obligations.ReadAcceptResults : Prop :=
  ∀ (s : State) (r : ReadRequest), s.power.main = .up → burstLength r.length = true →
    let joins (e : Entry) : Prop :=
      exec (.readAccept r) s = .next (s.setPath
        { s.path with entries := s.path.entries ++ [e], nextTag := s.path.nextTag + 1
                      epoch := s.path.epoch + 1 }).presentReport
    let bound (p : RingPlace) : Prop := (s.stream p.stream).source = r.source
    (s.waits r.source = true →
      exec (.readAccept r) s = .next (s.setPath
        { s.path with behind := s.path.behind ++ [.read r], epoch := s.path.epoch + 1 }).presentReport)
    ∧ (s.waits r.source = false →
        (s.path.entries.length < 96 → s.ringClass r.address r.length = .span →
          joins { tag := s.path.nextTag, source := r.source, address := r.address, length := r.length
                  attributes := r.attributes, kind := .span, state := .composed
                  response := List.replicate r.length { data := s.plan.fill, response := .slverr, plain := false }
                  returned := 0 })
        ∧ (s.path.entries.length < 96 →
            (s.ringClass r.address r.length = .outside
              ∨ ∃ p, s.ringClass r.address r.length = .ring p ∧ ¬ bound p) →
            joins { tag := s.path.nextTag, source := r.source, address := r.address, length := r.length
                    attributes := r.attributes, kind := .passThrough, state := .issueWait, response := []
                    returned := 0 })
        ∧ (∀ p, s.path.entries.length < 96 → s.ringClass r.address r.length = .ring p → bound p →
            TrackerFree s p.stream →
            joins { tag := s.path.nextTag, source := r.source, address := r.address, length := r.length
                    attributes := r.attributes
                    kind := .cipher { source := r.source, stream := p.stream, slot := p.slot, firstOffset := p.offset
                                      count := r.length
                                      slotGeneration := (s.frame p.stream p.slot).generation
                                      streamGeneration := (s.stream p.stream).generation
                                      state := .awaitingMemory, inputs := none }
                    state := .issueWait, response := [], returned := 0 })
        ∧ ((96 ≤ s.path.entries.length
              ∨ ∃ p, s.ringClass r.address r.length = .ring p ∧ bound p ∧ ¬ TrackerFree s p.stream) →
            exec (.readAccept r) s = .next (s.setPath
              { s.path with heads := placeHead { request := .read r, since := s.path.epoch } s.path.heads
                            epoch := s.path.epoch + 1 }).presentReport))

/-- WRITE_ACCEPT: a write behind its source's waiting head stays behind it, and without a list place it waits as a head.
A burst of any length that touches no ring and no parcel cell joins the lists in ISSUE_WAIT with its attributes and the
value of bytes 0 and 1 of its beat at the consumer beat, if it has one with both strobes set, and no other block sees
it. Bursts that touch a ring or a cell stand in FrameBeatResults and CellWriteResults. -/
def Obligations.WriteAcceptResults : Prop :=
  ∀ (s : State) (w : WriteRequest), s.power.main = .up → burstLength w.beats.length = true →
    (s.waits w.source = true →
      exec (.writeAccept w) s = .next (s.setPath
        { s.path with behind := s.path.behind ++ [.write w], epoch := s.path.epoch + 1 }).presentReport)
    ∧ (s.waits w.source = false → QueueLaw s → s.path.entries.length < 96 →
        s.ringClass w.address w.beats.length = .outside →
        (∀ k < w.beats.length, ∀ cell, s.inCell w.address k cell = false) →
        exec (.writeAccept w) s = .next (s.setPath
          { s.path with
            entries := s.path.entries ++
              [{ tag := s.path.nextTag, source := w.source, address := w.address, length := w.beats.length
                 attributes := w.attributes
                 kind := .write { beats := w.beats, kept := none, cells := []
                                  consumer := s.pendingConsumer w.address w.beats }
                 state := .issueWait, response := [], returned := 0 }]
            nextTag := s.path.nextTag + 1, epoch := s.path.epoch + 1 }).presentReport)
    ∧ (s.waits w.source = false → 96 ≤ s.path.entries.length →
        exec (.writeAccept w) s = .next (s.setPath
          { s.path with heads := placeHead { request := .write w, since := s.path.epoch } s.path.heads
                        epoch := s.path.epoch + 1 }).presentReport)

/-- A write into a ring. One beat in a slot meets the tests of R80 (restart, passing over, REWRITE, FOREIGN_WRITE,
PARTIAL_BEAT, OUT_OF_ORDER, or a beat taken, the fourth header beat with the tests of R82), and the burst is kept with
the slot's generation when its beat was taken. A longer burst in one slot acts on the record as its beats would one
after the other, offered to lists with room for each, and is kept when one of them was taken. Either way the burst
joins the lists in ISSUE_WAIT as it was received, with what the frame monitor keeps of it and the consumer value it
holds pending, and the requests before it stay. A burst that crosses a slot boundary breaks every touched slot that is
not BROKEN with SPAN, with the beat offset of its first beat there, and is not kept; what it does to the lists and to
parcel cells stands in CellWriteResults. A ring shares no byte with a cell (RingLaw), so that a burst in one slot
touches none. The other records stay. -/
def Obligations.FrameBeatResults : Prop :=
  ∀ (s : State) (w : WriteRequest), s.power.main = .up → burstLength w.beats.length = true →
    s.waits w.source = false → s.path.entries.length < 96 →
    QueueLaw s → FrameLaw s → PathLaw s →
    let noCell : Prop := ∀ k < w.beats.length, ∀ cell, s.inCell w.address k cell = false
    let joins (t : State) (p : RingPlace) (taken : Bool) : Prop :=
      t.path.entries = s.path.entries ++
        [{ tag := s.path.nextTag, source := w.source, address := w.address, length := w.beats.length
           attributes := w.attributes
           kind := .write { beats := w.beats
                            kept := if taken then some { stream := p.stream, slot := p.slot
                                                         generation := (t.frame p.stream p.slot).generation } else none
                            cells := [], consumer := s.pendingConsumer w.address w.beats }
           state := .issueWait, response := [], returned := 0 }]
    (∀ (b : WriteBeat) (p : RingPlace), noCell → w.beats = [b] → s.ringClass w.address 1 = .ring p →
      let f := s.frame p.stream p.slot
      let full := b.strobes = 0xFFFF
      let becomes (g : Frame) (taken : Bool) : Prop :=
        ∃ t, exec (.writeAccept w) s = .next t ∧ t.frame p.stream p.slot = g ∧ joins t p taken
          ∧ (∀ i j, (i, j) ≠ (p.stream, p.slot) → t.frame i j = s.frame i j)
          ∧ t.report = s.report ∧ Touches [.frames, .entries, .counters, .waiting] s t
      let breaks (cause : BrokenCause) (data2 : Nat) (taken : Bool) : Prop :=
        ∃ t, exec (.writeAccept w) s = .next t ∧ joins t p taken
          ∧ t.frame p.stream p.slot =
              { state := .broken cause f.state.writer f.state.parsed, generation := f.generation }
          ∧ (∀ i j, (i, j) ≠ (p.stream, p.slot) → t.frame i j = s.frame i j)
          ∧ t.report = s.report.stage (recordOfBreak s.recordSeconds p.stream p.slot cause f.state.writer
              f.state.parsed w.source data2)
          ∧ Touches [.frames, .entries, .counters, .waiting, .report] s t
      (b.strobes = 0 → becomes f false)
      ∧ (p.offset = 0 → full →
          becomes { state := .header w.source 1 [b.data], generation := f.generation + 1 } true)
      ∧ (b.strobes ≠ 0 → ¬ (p.offset = 0 ∧ full) →
          (∀ c o h, f.state = .broken c o h → becomes f false)
          ∧ (f.state = .vacant → full → breaks .outOfOrder p.offset false)
          ∧ (f.state = .vacant → ¬ full → breaks .partialBeat p.offset false)
          ∧ (∀ o h, f.state = .ready o h →
              (4 + h.payloadLength / 16 ≤ p.offset → becomes f false)
              ∧ (p.offset < 4 + h.payloadLength / 16 → breaks .rewrite p.offset false))
          ∧ (∀ o n h, f.state = .filling o n h →
              (4 + h.payloadLength / 16 ≤ p.offset → becomes f false)
              ∧ (p.offset < 4 + h.payloadLength / 16 →
                  (w.source ≠ o → breaks .foreignWrite p.offset false)
                  ∧ (w.source = o → ¬ full → breaks .partialBeat p.offset false)
                  ∧ (w.source = o → full → p.offset ≠ n → breaks .outOfOrder p.offset false)
                  ∧ (w.source = o → full → p.offset = n →
                      becomes { state := .filling o (n + 1) h, generation := f.generation } true)))
          ∧ (∀ o n capture, f.state = .header o n capture →
              (w.source ≠ o → breaks .foreignWrite p.offset false)
              ∧ (w.source = o → ¬ full → breaks .partialBeat p.offset false)
              ∧ (w.source = o → full → p.offset ≠ n → breaks .outOfOrder p.offset false)
              ∧ (w.source = o → full → p.offset = n → n ≠ 3 →
                  becomes { state := .header o (n + 1) (capture ++ [b.data]), generation := f.generation } true)
              ∧ (w.source = o → full → p.offset = n → n = 3 →
                  let bytes := bytesOf (capture ++ [b.data])
                  match (headerTests bytes (2 ^ (19 + (s.stream p.stream).sizeCode))).findIdx? id with
                  | none => becomes { state := .filling o 4 (headerFields bytes), generation := f.generation } true
                  | some i => breaks .badHeader (i + 1) true))))
    ∧ (∀ (b : WriteBeat) (rest : List WriteBeat) (p : RingPlace), noCell → w.beats = b :: rest → rest ≠ [] →
        s.ringClass w.address w.beats.length = .ring p →
        ∃ t₁ t₂ t, exec (.writeAccept { w with beats := [b] }) (s.setPath { s.path with entries := [] }) = .next t₁
          ∧ exec (.writeAccept { w with address := BitVec.ofNat 36 (beatAt w.address 1), beats := rest }) t₁ = .next t₂
          ∧ exec (.writeAccept w) s = .next t ∧ t.frames = t₂.frames ∧ t.report = t₂.report
          ∧ joins t p (t₁.youngestKept.isSome || t₂.youngestKept.isSome)
          ∧ Touches [.frames, .entries, .counters, .waiting, .report] s t)
    ∧ (s.ringClass w.address w.beats.length = .span →
        ∃ t records, exec (.writeAccept w) s = .next t ∧ t.youngestKept = none ∧ SpanBreaks s t w
          ∧ SpanRecords s w records ∧ t.report = s.report.stageAll (records ++ s.tornRecords w)
          ∧ (noCell → s.tornRecords w = [] ∧ t.intake = s.intake)
          ∧ Touches [.frames, .entries, .counters, .waiting, .intake, .report] s t)

/-- A write burst outside the rings or over the edge of one, into parcel cells or not, with full, partial or no
strobes. What it does to the frame monitor comes first (SPAN: the model's order, log 9). Every cell that a beat with a
strobe set lies in is torn: its queue entry leaves the queue, its pending commit is gone, its verification ends, each
of them refused TORN, in ascending cell order (the model's, log 35). A torn verification in CHECKING, or in READING
with no read at memory, leaves the verifier IDLE or reading the next entry, with its waiting read withdrawn; with its
read at memory it is DRAINING. The burst's commits are those of its beats 0 of cells with all strobes set, and it
holds pending what it writes to the consumer beat. -/
def Obligations.CellWriteResults : Prop :=
  ∀ (s : State) (w : WriteRequest), s.power.main = .up → burstLength w.beats.length = true →
    s.waits w.source = false → s.path.entries.length < 96 →
    s.ringClass w.address w.beats.length = .outside ∨ s.ringClass w.address w.beats.length = .span →
    QueueLaw s → FrameLaw s → PathLaw s →
    let queue := s.intake.queue.filter (fun e => !s.writesCell w e.cell)
    let torn (cell : Nat) : Prop := s.intake.verifier.cell = some cell ∧ s.writesCell w cell = true
    ∃ t records, exec (.writeAccept w) s = .next t
      ∧ SpanBreaks s t w ∧ SpanRecords s w records
      ∧ (s.ringClass w.address w.beats.length = .outside → records = [] ∧ t.frames = s.frames)
      ∧ t.intake.commits = s.intake.commits.filter (fun c => !s.writesCell w c.cell) ++ s.commitsOf w s.path.nextTag
      ∧ t.report = s.report.stageAll (records ++ s.tornRecords w)
      ∧ ((∀ cell, ¬ torn cell) → t.intake.queue = queue ∧ t.intake.verifier = s.intake.verifier)
      ∧ (∀ cell buffer, torn cell → s.intake.verifier = .checking cell buffer → TakesHead t queue)
      ∧ (∀ cell captured buffer, torn cell → s.intake.verifier = .reading cell captured buffer →
          ReadingEnds s t queue)
      ∧ (∃ (e : Entry) (info : WriteInfo), t.path.entries = s.path.entries ++ [e]
          ∧ e = { tag := s.path.nextTag, source := w.source, address := w.address, length := w.beats.length
                  attributes := w.attributes, kind := .write info, state := .issueWait, response := [], returned := 0 }
          ∧ info.beats = w.beats ∧ info.kept = none ∧ info.consumer = s.pendingConsumer w.address w.beats
          ∧ ∀ cell, cell ∈ info.cells ↔ ∃ k < w.beats.length, s.inCell w.address k cell = true)
      ∧ Touches [.frames, .entries, .counters, .waiting, .intake, .report] s t

/-- MEMORY_PORT_GRANT: the oldest request in ISSUE_WAIT is issued as it was received, attributes included, under its
tag, and counted while the internal requester waits; the internal requester's first request is issued when no server
request waits or after 16 server grants: a read of the verifier at its place in its cell, with attributes that are a
free value (log 39), or the report writer's write as its own command issues it; the requests behind it wait on, with
the count at 0 again. With nothing waiting there is no grant. -/
def Obligations.PortGrantResults : Prop :=
  ∀ s : State, s.power.main = .up →
    let p := s.presentReport
    let oldest := p.path.entries.find? (fun e => decide (e.state = .issueWait))
    (∀ e, oldest = some e → (p.internal.waiting = [] ∨ p.internal.grants < 16) →
      exec .memoryPortGrant s = .next
        ((((p.editEntry e.tag (fun f => { f with state := .atMemory })).setPath
            { (p.editEntry e.tag (fun f => { f with state := .atMemory })).path with
              issued := some
                (match e.kind with
                 | .write info => { tag := e.tag, write := true, address := e.address.toNat, length := e.length
                                    beats := info.beats, attributes := e.attributes }
                 | _ => { tag := e.tag, write := false, address := e.address.toNat, length := e.length, beats := []
                          attributes := e.attributes }) }).setInternal
          { p.internal with
            grants := if p.internal.waiting = [] then p.internal.grants else p.internal.grants + 1 }).presentReport))
    ∧ (∀ r rest, p.internal.waiting = r :: rest → (oldest = none ∨ 16 ≤ p.internal.grants) →
        (∃ t, exec .memoryPortGrant s = .next t
          ∧ t.internal = { waiting := rest, grants := 0, atMemory := p.internal.atMemory ++ [r] }
          ∧ t.path.entries = p.path.entries
          ∧ (∀ cell first count, r.kind = .verifierRead cell first count →
              t.path.issued = some
                { tag := r.tag, write := false, address := 2 ^ 30 * s.intakeSel.toNat + 0x400 * cell + 16 * first
                  length := count, beats := [], attributes := Config.ownAttributes r.tag }
              ∧ t.report = s.report)
          ∧ Touches [.port, .counters, .waiting, .atMemory, .report, .status, .indices] s t)
        ∧ (r.kind = .identityWrite → exec .memoryPortGrant s = exec .identityWrite s)
        ∧ (r.kind = .statusWrite → exec .memoryPortGrant s = exec .statusWrite s)
        ∧ (r.kind = .recordWrite → exec .memoryPortGrant s = exec .recordWrite s))
    ∧ (oldest = none → p.internal.waiting = [] → exec .memoryPortGrant s = .next p.presentReport)

/-- IDENTITY_WRITE, STATUS_WRITE and RECORD_WRITE: when the arbiter's choice is the report writer's request of that
kind, it is issued as one burst with all strobes set at its place in the intake window, with the bytes its layout
gives from the state at the issue and attributes that are a free value (log 39), and its pending flag, or LOST for a
record, is cleared; the requests behind it wait on, with the arbiter's count at 0 again. -/
def Obligations.ReportWritesIssue : Prop :=
  ∀ (s : State) (r : InternalRequest) (rest : List InternalRequest), s.power.main = .up →
    let p := s.presentReport
    let base := 2 ^ 30 * s.intakeSel.toNat
    let full (bytes : List Byte) : WriteBeat := { data := beatOfBytes bytes, strobes := 0xFFFF }
    p.internal.waiting = r :: rest → (p.oldestWaiting = none ∨ 16 ≤ p.internal.grants) →
    let issues (c : Instr) (offset : Nat) (beats : List WriteBeat) (after : Report) : Prop :=
      ∃ t, exec c s = .next t
        ∧ t.path.issued = some { tag := r.tag, write := true, address := base + offset, length := beats.length
                                 beats := beats, attributes := Config.ownAttributes r.tag }
        ∧ t.internal = { waiting := rest, grants := 0, atMemory := p.internal.atMemory ++ [r] } ∧ t.report = after
        ∧ t.path.entries = s.path.entries
        ∧ Touches [.port, .counters, .waiting, .atMemory, .report, .status, .indices] s t
    (r.kind = .identityWrite →
      let bytes := leBytes 8 ((0x1640 : BitVec 16) ++ s.fuses.deviceId).toNat ++ leBytes 2 0x1640 ++ leBytes 2 1
        ++ leBytes 2 128 ++ leBytes 1 16 ++ leBytes 17 0
      issues .identityWrite 0x8020 [full bytes, full (bytes.drop 16)] { s.report with identityPending := false })
    ∧ (r.kind = .statusWrite →
        let bytes := leBytes 2 s.report.producer ++ [s.clock.state.code, s.trip.latch.code]
          ++ leBytes 4 s.plan.revision.toNat
          ++ [BitVec.ofNat 8 s.slotsInUse, BitVec.ofNat 8 s.nonIdleLeases, BitVec.ofNat 8 s.intake.queue.length]
          ++ leBytes 5 s.recordSeconds.toNat
        issues .statusWrite 0x8000 [full bytes] { s.report with statusPending := false })
    ∧ (∀ q more, r.kind = .recordWrite → s.report.staging = q :: more →
        let bytes := [q.kind.code, q.cause, if s.report.lost then 1 else 0, q.stream] ++ leBytes 4 q.subject.toNat
          ++ leBytes 8 q.seconds.toNat ++ leBytes 4 q.data0.toNat ++ leBytes 4 q.data1.toNat
          ++ leBytes 4 q.data2.toNat ++ leBytes 2 q.index.toNat ++ [0, 0]
        issues .recordWrite (0xC000 + 32 * s.report.producer) [full bytes, full (bytes.drop 16)]
          { s.report with lost := false })

/-- The report writer takes a record while it stages fewer than 64 and else sets LOST; and with the main domain up and
no request of its own outstanding it hands over the identity write, the status write or a record write, in that
order of preference, or nothing. -/
def Obligations.ReportWriterChooses : Prop :=
  (∀ (r : Report) (q : Record),
    r.stage q = if r.staging.length < 64 then { r with staging := r.staging ++ [q] } else { r with lost := true })
  ∧ ∀ s : State,
    let hands (kind : InternalKind) : Prop :=
      s.presentReport =
        (s.setPath { s.path with nextTag := s.path.nextTag + 1 }).setInternal
          { s.internal with waiting := s.internal.waiting ++ [{ tag := s.path.nextTag, kind := kind }]
                            grants := if s.internal.waiting = [] then 0 else s.internal.grants }
    let outstanding := (s.internal.waiting ++ s.internal.atMemory).any (fun r => r.kind.ofReport)
    let full := (s.report.producer + 512 - s.report.consumer) % 512 = 511
    (s.power.main ≠ .up ∨ outstanding = true → s.presentReport = s)
    ∧ (s.power.main = .up → outstanding = false →
        (s.report.identityPending = true → hands .identityWrite)
        ∧ (s.report.identityPending = false → s.report.statusPending = true → hands .statusWrite)
        ∧ (s.report.identityPending = false → s.report.statusPending = false →
            (s.report.staging ≠ [] → ¬ full → hands .recordWrite)
            ∧ (s.report.staging = [] ∨ full → s.presentReport = s)))

/-- PASS_THROUGH_READ_DATA: the beats join the response as memory answered them, data and response alike; with the
last of them the request is COMPOSED. Nothing else changes. -/
def Obligations.PassThroughDataResult : Prop :=
  ∀ (s : State) (tag : Nat) (e : Entry) (beats : List ReadBeat), s.power.main = .up →
    burstLength beats.length = true → s.entry tag = some e → e.kind = .passThrough → e.state = .atMemory →
    e.response.length + beats.length ≤ e.length →
    exec (.passThroughReadData tag beats) s = .next
      (s.editEntry tag (fun f =>
        { f with
          response := f.response ++ beats.map (fun b => { data := b.data, response := b.response, plain := false })
          state := if f.response.length + beats.length = f.length then .composed else .atMemory })).presentReport

/-- RESPONSE_RETURN: of a source's oldest response the next beats are carried, in order; what is left stays, and with
the last item the request leaves the lists. The waiting heads are then tried: while none can be accepted nothing else
follows; with one place free the first head that can be accepted is accepted as a request offered then would be, and
its source's next request begins waiting in its place; no head that could be accepted is left. A response not yet
available returns nothing. -/
def Obligations.ResponseReturnResults : Prop :=
  ∀ (s : State) (source : SourceId) (n : Nat) (e : Entry), s.power.main = .up → burstLength n = true →
    s.path.entries.find? (fun f => decide (f.source = source)) = some e →
    let left := e.response.length - e.returned
    let carries (m : Nat) (last : Bool) : PortResponse :=
      { source := source, tag := e.tag
        beats := ((e.response.drop e.returned).take m).map (fun b => (b.data, b.response)), last := last }
    (e.state = .issueWait ∨ (e.state = .atMemory ∧ e.kind ≠ .passThrough) ∨ left = 0 →
      exec (.responseReturn source n) s = .next s.presentReport)
    ∧ (e.state = .composed → e.response.length = e.responseLength → e.returned < e.response.length →
        (n < left →
          exec (.responseReturn source n) s = .next
            ((s.setPath { s.path with returned := some (carries n false) }).editEntry e.tag
              (fun f => { f with returned := f.returned + n })).presentReport)
        ∧ (left ≤ n →
            let removed := s.setPath
              { s.path with returned := some (carries left true)
                            entries := s.path.entries.filter (fun f => decide (f.tag ≠ e.tag)) }
            ((∀ h ∈ s.path.heads, ¬ Acceptable removed h.request) →
              exec (.responseReturn source n) s = .next
                (removed.setPath { removed.path with epoch := s.path.epoch + 1 }).presentReport)
            ∧ (WaitLaw s → ∃ t, exec (.responseReturn source n) s = .next t ∧ WaitLaw t)
            ∧ (∀ (h : Head) (earlier later : List Head), s.path.heads = earlier ++ h :: later →
                (∀ g ∈ earlier, ¬ Acceptable removed g.request) → Acceptable removed h.request →
                removed.path.entries.length = 95 → WaitLaw s → (offer h.request).wellFormed = true →
                ∃ t u, exec (.responseReturn source n) s = .next t
                  ∧ exec (offer h.request) (removed.setPath { removed.path with heads := [], behind := [] }) = .next u
                  ∧ t.path.entries = u.path.entries ∧ t.frames = u.frames ∧ t.intake = u.intake
                  ∧ t.report = u.report ∧ t.path.returned = some (carries left true)
                  ∧ (∀ g, g ∈ t.path.heads ↔
                      g ∈ earlier ++ later
                      ∨ ∃ r, s.path.behind.find? (fun q => decide (requestSource q = requestSource h.request)) = some r
                          ∧ g = { request := r, since := s.path.epoch }))))
    ∧ (e.state = .atMemory → e.kind = .passThrough → 0 < left → e.response.length < e.length →
        exec (.responseReturn source n) s = .next
          ((s.setPath { s.path with returned := some (carries (min n left) false) }).editEntry e.tag
            (fun f => { f with returned := f.returned + min n left })).presentReport)

/-! ## Decisions -/

/-- DECISION that ends before test 6. Memory's SLVERR on any beat answers every beat SLVERR with fill, undecided; a
part TRIPPED, a stream or slot generation that has moved, or a slot that is not READY makes every beat fill and
OKAY; a burst of a readable frame with no payload beat has its header beats as memory gave them and fill beyond the
payload. No lease, key, frame, lane or record changes. -/
def Obligations.DecisionEndsEarly : Prop :=
  ∀ (s : State) (tag : Nat) (tr : Tracker) (beats : List ReadBeat), s.power.main = .up →
    burstLength beats.length = true → Awaits s tag tr beats.length →
    ((∃ b ∈ beats, b.response = .slverr) →
      exec (.decision tag beats) s = .next
        (s.answered tag
          (List.replicate beats.length { data := s.plan.fill, response := .slverr, plain := false })).presentReport)
    ∧ (AllOkay beats → (¬ ∃ h, Readable s tr h) →
        exec (.decision tag beats) s = .next
          (s.answered tag
            (List.replicate beats.length { data := s.plan.fill, response := .okay, plain := false })).presentReport)
    ∧ (∀ h, AllOkay beats → Readable s tr h → payloadCount h tr.firstOffset beats.length = 0 →
        exec (.decision tag beats) s = .next
          (s.answered tag (((List.range beats.length).zip beats).map (fun b =>
            { data := if tr.firstOffset + b.1 < 4 then b.2.data else s.plan.fill, response := .okay
              plain := false }))).presentReport)

/-- R54: the payload beats of a CLEAR frame are RAW, and the decision changes no lease and no count, whatever the
frame's show tag. -/
def Obligations.ClearFrameIsRaw : Prop :=
  ∀ (s : State) (tag : Nat) (tr : Tracker) (h : Header) (beats : List ReadBeat), s.power.main = .up →
    burstLength beats.length = true → Awaits s tag tr beats.length → AllOkay beats → Readable s tr h →
    h.clear = true →
    exec (.decision tag beats) s = .next
      (s.answered tag
        (composed s.plan.fill h tr.firstOffset (beats.map (fun b => b.data))
          (fun d => { data := d, response := .okay, plain := false }))).presentReport

/-- A payload burst that begins a new show, on a lease that is IDLE, REFUSED for another show, or REFUSED for this
show under another generation (a retry), and meets every condition of an opening opens a RUNNING lease on its key: in
SHOW mode the burst waits for a lane with the slot's key value and one unit of the allowance is spent; in CHECK mode
its payload is fill and nothing is spent. A RUNNING, OVERRUN or HELD lease of another show first ends SUPERSEDED,
which frees the WITHDRAWN keys that no lease lists any more and settles their revocations. -/
def Obligations.DecisionOpensLease : Prop :=
  ∀ (s : State) (tag slot : Nat) (tr : Tracker) (h : Header) (k : Key) (beats : List ReadBeat),
    s.power.main = .up → burstLength beats.length = true → Awaits s tag tr beats.length → AllOkay beats →
    Readable s tr h → h.clear = false → 0 < payloadCount h tr.firstOffset beats.length →
    tr.stream < 16 → s.leases.length = 16 → s.clock.state = .running →
    s.findKey h.keyId = some (slot, k) → k.state = .opened → inSet k.auditoriums tr.stream = true →
    h.feature = k.feature → (∀ a, k.allowance = some a → a.current ≠ 0) →
    let mode := (s.stream tr.stream).mode
    let n := payloadCount h tr.firstOffset beats.length
    let data := beats.map (fun b => b.data)
    let opens (t : State) : Prop :=
      exec (.decision tag beats) s = .next t
      ∧ t.lease tr.stream = .serving .running
          { tag := h.tag, feature := k.feature, mode := mode, start := s.clock.reading / 65536
            hardEnd := s.clock.reading / 65536 + 60 * k.maxRun, keys := [h.keyId], plainCount := n, darkCount := 0
            firstRefusal := none }
      ∧ (∀ i, i ≠ tr.stream → t.lease i = s.lease i)
      ∧ t.key slot = some (match mode with
          | .check => k
          | .show => { k with allowance := k.allowance.map (fun (a : Allowance) =>
              { a with current := a.current - 1 }) })
      ∧ t.keys.generation = s.keys.generation
      ∧ t.path.entries = (match mode with
          | .check => s.answered tag (composed s.plan.fill h tr.firstOffset data
              (fun _ => { data := s.plan.fill, response := .okay, plain := false }))
          | .show => s.awaitsLane tag (composed s.plan.fill h tr.firstOffset data
              (fun d => { data := d, response := .okay, plain := true })) k.value h.frameIndex).path.entries
    let opened : Record :=
      { kind := .leaseOpened, cause := if mode = .show then 1 else 2, stream := BitVec.ofNat 8 tr.stream
        subject := h.tag.setWidth 32, seconds := s.recordSeconds, data0 := h.keyId
        data1 := BitVec.ofNat 32 (s.clock.reading / 65536 + 60 * k.maxRun)
        data2 := BitVec.ofNat 32 ((s.clock.reading / 65536 + 60 * k.maxRun) / 2 ^ 32 % 256)
        index := BitVec.ofNat 16 slot }
    (MayOpen s tr.stream h.tag →
      ∃ t, opens t ∧ (∀ i, i ≠ slot → t.key i = s.key i) ∧ t.report = s.report.stage opened
        ∧ Touches [.leases, .keys, .entries, .counters, .waiting, .report] s t)
    ∧ (∀ st sh, s.lease tr.stream = .serving st sh → sh.tag ≠ h.tag → KeyTableLaw s → LeaseLaw s →
        ∃ t, opens t ∧ (∀ i, i ≠ slot → t.key i = (s.key i).bind (handedBack t sh.keys))
          ∧ HandsFirst s.report t.report (recordOfEnd s.recordSeconds tr.stream .superseded sh)
          ∧ (∀ i q, s.key i = some q → t.key i = none → HandsAmong s.report t.report
              (recordOfKey s.recordSeconds .keyFreed 2 i q (s.clock.reading / 65536)))
          ∧ HandsLast t.report opened ∧ t.revocations = s.listSettled t (s.clock.reading / 65536)
          ∧ Touches [.leases, .keys, .revocations, .entries, .counters, .waiting, .report] s t)

/-- A payload burst that begins a new show and fails a condition of an opening, in their order, leaves the lease
REFUSED with the cause, the wanting key and the generation, and is DARK; LEASE_REFUSED is written unless it is a retry
with the cause of before. A RUNNING, OVERRUN or HELD lease of another show first ends SUPERSEDED, and a WITHDRAWN key
that this frees is NO_KEY, its revocation settled. A REFUSED lease of the same show under the same generation is not
retried: the burst is DARK and nothing is written. -/
def Obligations.DecisionRefusesOpening : Prop :=
  ∀ (s : State) (tag : Nat) (tr : Tracker) (h : Header) (beats : List ReadBeat),
    s.power.main = .up → burstLength beats.length = true → Awaits s tag tr beats.length → AllOkay beats →
    Readable s tr h → h.clear = false → 0 < payloadCount h tr.firstOffset beats.length →
    tr.stream < 16 → s.leases.length = 16 →
    let dark (t : State) : Prop :=
      exec (.decision tag beats) s = .next t
      ∧ (∀ i, i ≠ tr.stream → t.lease i = s.lease i)
      ∧ t.path.entries = (s.answered tag (composed s.plan.fill h tr.firstOffset (beats.map (fun b => b.data))
          (fun _ => { data := s.plan.fill, response := .okay, plain := false }))).path.entries
    let refused (t : State) (cause : LeaseCause) : Prop :=
      dark t ∧ t.lease tr.stream = .refused h.tag
        { cause := cause, wanting := h.keyId, generation := s.keys.generation }
    let record (cause : LeaseCause) : Record :=
      { kind := .leaseRefused, cause := cause.code, stream := BitVec.ofNat 8 tr.stream
        subject := h.tag.setWidth 32, seconds := s.recordSeconds, data0 := h.keyId
        data1 := s.keys.generation.setWidth 32, data2 := 0, index := 0xFFFF }
    (∀ refusal, s.lease tr.stream = .refused h.tag refusal → refusal.generation = s.keys.generation →
      ∃ t, dark t ∧ t.leases = s.leases ∧ Touches [.entries, .counters, .waiting] s t)
    ∧ ∀ cause : LeaseCause,
      (if s.clock.state ≠ .running then some LeaseCause.clock
       else match s.findKey h.keyId with
        | none => some .noKey
        | some (_, k) =>
          if k.state = .waiting then some .keyWaiting
          else if k.state = .closed then some .keyClosed
          else if k.state = .withdrawn then some .keyWithdrawn
          else if inSet k.auditoriums tr.stream = false then some .auditorium
          else if h.feature ≠ k.feature then some .feature
          else if k.allowance.any (fun a => decide (a.current = 0)) then some .allowance
          else none) = some cause →
      (MayOpen s tr.stream h.tag →
        ∃ t, refused t cause
          ∧ t.report = (match s.lease tr.stream with
              | .refused old refusal =>
                if old = h.tag ∧ refusal.cause = cause then s.report else s.report.stage (record cause)
              | _ => s.report.stage (record cause))
          ∧ Touches [.leases, .entries, .counters, .waiting, .report] s t)
      ∧ (∀ st sh, s.lease tr.stream = .serving st sh → sh.tag ≠ h.tag → KeyTableLaw s → LeaseLaw s →
          ∃ t, (∀ i, t.key i = (s.key i).bind (handedBack t sh.keys))
            ∧ (let found := if cause = .keyWithdrawn ∧ h.keyId ∈ sh.keys ∧ t.anyLists h.keyId = false then .noKey
                            else cause
               refused t found ∧ HandsLast t.report (record found))
            ∧ HandsFirst s.report t.report (recordOfEnd s.recordSeconds tr.stream .superseded sh)
            ∧ t.revocations = s.listSettled t (s.clock.reading / 65536)
            ∧ Touches [.leases, .keys, .revocations, .entries, .counters, .waiting, .report] s t)

/-- A payload burst of the show its lease serves. At or past the hard end the lease ends EXPIRED, which settles the
revocations of the WITHDRAWN keys it frees, and the burst is DARK. HELD, it is DARK and counted so; RUNNING or OVERRUN
with the clock SUSPECT, it is held by the decision and the burst is counted DARK. On a listed key that may be used it
is counted PLAIN and in SHOW mode waits for a lane with the slot's key value. A key that may join is appended to the
list, and takes a RUNNING lease to OVERRUN with its record when it is CLOSED. A key that may not be used, or may not
join, makes the burst DARK, counted so, and its cause is kept the first time. -/
def Obligations.DecisionServesShow : Prop :=
  ∀ (s : State) (tag : Nat) (tr : Tracker) (h : Header) (st : Serving) (sh : Show) (beats : List ReadBeat),
    s.power.main = .up → burstLength beats.length = true → Awaits s tag tr beats.length → AllOkay beats →
    Readable s tr h → h.clear = false → 0 < payloadCount h tr.firstOffset beats.length →
    tr.stream < 16 → s.leases.length = 16 → s.lease tr.stream = .serving st sh → sh.tag = h.tag →
    let now := s.clock.reading / 65536
    let n := payloadCount h tr.firstOffset beats.length
    let data := beats.map (fun b => b.data)
    let dark := (s.answered tag (composed s.plan.fill h tr.firstOffset data
      (fun _ => { data := s.plan.fill, response := .okay, plain := false }))).path.entries
    let darker : Show := { sh with darkCount := min (sh.darkCount + n) (2 ^ 32 - 1) }
    let decides (t : State) (serving : Serving) (after : Show) (entries : List Entry) (records : List Record) : Prop :=
      exec (.decision tag beats) s = .next t ∧ t.lease tr.stream = .serving serving after
      ∧ (∀ i, i ≠ tr.stream → t.lease i = s.lease i) ∧ t.path.entries = entries
      ∧ t.report = s.report.stageAll records ∧ Touches [.leases, .entries, .counters, .waiting, .report] s t
    let plain (t : State) (serving : Serving) (keys : List KeyId) (value : KeyValue) (records : List Record) : Prop :=
      decides t serving { sh with keys := keys, plainCount := min (sh.plainCount + n) (2 ^ 32 - 1) }
        (match sh.mode with
         | .check => dark
         | .show => (s.awaitsLane tag (composed s.plan.fill h tr.firstOffset data
             (fun d => { data := d, response := .okay, plain := true })) value h.frameIndex).path.entries) records
    let refuses (t : State) (cause : LeaseCause) : Prop :=
      decides t st { darker with firstRefusal := some (sh.firstRefusal.getD cause) } dark []
    (sh.hardEnd ≤ now →
      ∃ t, exec (.decision tag beats) s = .next t ∧ t.lease tr.stream = .idle ∧ t.path.entries = dark
        ∧ (∀ i, i ≠ tr.stream → t.lease i = s.lease i)
        ∧ (KeyTableLaw s → LeaseLaw s → t.revocations = s.listSettled t now
            ∧ ∀ i, t.key i = (s.key i).bind (handedBack t sh.keys))
        ∧ HandsFirst s.report t.report (recordOfEnd s.recordSeconds tr.stream .expired sh)
        ∧ Touches [.leases, .keys, .revocations, .entries, .counters, .waiting, .report] s t)
    ∧ (now < sh.hardEnd →
        (∀ saved since, st = .held saved since → ∃ t, decides t st darker dark [])
        ∧ (∀ saved : SavedState, st = (match saved with
              | .running => .running
              | .overrun => .overrun) → s.clock.state = .suspect →
            ∃ t, decides t (.held saved now) darker dark
              [recordOfShow s.recordSeconds .leaseHeld 0 tr.stream sh.tag (saved.code.setWidth 32) 0 0])
        ∧ (st = .running ∨ st = .overrun → s.clock.state ≠ .suspect →
            (h.keyId ∈ sh.keys →
              match s.findKey h.keyId with
              | none => ∃ t, refuses t .noKey
              | some (_, k) =>
                if k.state = .waiting then ∃ t, refuses t .keyWaiting
                else if k.state = .closed ∧ k.notAfter + 60 * k.grace ≤ now then ∃ t, refuses t .gracePassed
                else if k.feature ≠ sh.feature ∨ h.feature ≠ sh.feature then ∃ t, refuses t .feature
                else ∃ t, plain t st sh.keys k.value [])
            ∧ (h.keyId ∉ sh.keys →
                match s.findKey h.keyId with
                | none => ∃ t, refuses t .noKey
                | some (_, k) =>
                  if k.state = .waiting then ∃ t, refuses t .keyWaiting
                  else if k.state = .withdrawn then ∃ t, refuses t .keyWithdrawn
                  else if k.state = .closed ∧ k.notAfter + 60 * k.grace ≤ now then ∃ t, refuses t .gracePassed
                  else if sh.start < k.notBefore ∨ k.notAfter ≤ sh.start then ∃ t, refuses t .window
                  else if inSet k.auditoriums tr.stream = false then ∃ t, refuses t .auditorium
                  else if k.feature ≠ sh.feature ∨ h.feature ≠ sh.feature then ∃ t, refuses t .feature
                  else if 8 ≤ sh.keys.length then ∃ t, refuses t .listFull
                  else if st = .running ∧ k.state = .closed then
                    ∃ t, plain t .overrun (sh.keys ++ [h.keyId]) k.value
                      [recordOfShow s.recordSeconds .leaseOverrun 0 tr.stream sh.tag h.keyId 0 0]
                  else ∃ t, plain t st (sh.keys ++ [h.keyId]) k.value [])))

/-- The law of R64: a decision leaves a burst waiting for a lane only if the part is not TRIPPED, the clock RUNNING,
the stream's lease RUNNING or OVERRUN in SHOW mode before its hard end, and the frame's key in the lease's list and
held by a slot that is OPEN, WITHDRAWN, or CLOSED before its freeing time. -/
def Obligations.PlaintextNeedsALease : Prop :=
  ∀ (s t : State) (tag : Nat) (tr : Tracker) (beats : List ReadBeat) (e : Entry) (u : Tracker),
    s.power.main = .up → burstLength beats.length = true → Awaits s tag tr beats.length → tr.stream < 16 →
    KeyTableLaw s → LeaseLaw s → ClockLaw s →
    exec (.decision tag beats) s = .next t → t.entry tag = some e → e.kind = .cipher u → u.state = .decided →
    s.trip.latch = .normal ∧ s.clock.state = .running
    ∧ ∃ (h : Header) (st : Serving) (sh : Show) (slot : Nat) (k : Key),
        Readable s tr h ∧ t.lease tr.stream = .serving st sh ∧ (st = .running ∨ st = .overrun)
        ∧ sh.mode = .show ∧ s.clock.reading / 65536 < sh.hardEnd ∧ h.keyId ∈ sh.keys
        ∧ t.findKey h.keyId = some (slot, k)
        ∧ (k.state = .opened ∨ k.state = .withdrawn
            ∨ (k.state = .closed ∧ s.clock.reading / 65536 < k.notAfter + 60 * k.grace))
        ∧ u.inputs = some { key := k.value, frameIndex := h.frameIndex }

/-! ## Lanes -/

/-- LANE_GRANT: the candidate first in the arbitration mode's order takes the lowest FREE lane with its inputs, its
PLAIN beats with their payload beat numbers; its stream is the last granted, and its tracker is IN_LANE without
inputs. A candidate is the oldest DECIDED burst of its source. With no lane FREE or no candidate nothing happens.
ROTATING starts after the last granted stream, FIXED at stream 0; in one stream the lower source is first. -/
def Obligations.LaneGrantResults : Prop :=
  ∀ s : State, s.power.main = .up →
    let place (stream : Nat) : Nat :=
      match s.plan.arbitration with
      | .rotating => (stream + 16 - (s.engine.lastGranted + 1) % 16) % 16
      | .fixed => stream
    ((∀ e, ¬ Candidate s e) ∨ (∀ j ∈ s.engine.lanes, j ≠ none) → exec .laneGrant s = .next s.presentReport)
    ∧ ∀ (lane : Nat) (e : Entry) (tr : Tracker) (inputs : LaneInputs),
        lane < s.engine.lanes.length → s.engine.lanes.getD lane none = none →
        (∀ j < lane, s.engine.lanes.getD j none ≠ none) →
        Candidate s e → e.kind = .cipher tr → tr.inputs = some inputs →
        (∀ f u, Candidate s f → f.kind = .cipher u → f ≠ e →
          place tr.stream < place u.stream ∨ (place tr.stream = place u.stream ∧ e.source < f.source)) →
        exec .laneGrant s = .next
          ((s.editEntry e.tag (fun f =>
              { f with kind := f.kind.editTracker (fun t => { t with state := .inLane, inputs := none }) })).setEngine
            { lanes := s.engine.lanes.set lane
                (some { tag := e.tag, stream := tr.stream, key := inputs.key, frameIndex := inputs.frameIndex
                        beats := plainBeats tr.firstOffset e.response })
              lastGranted := tr.stream }).presentReport

/-- LANE_COMPLETE: each PLAIN beat of the lane's burst becomes its ciphertext combined by exclusive-or with the block
cipher of the counter block under the key, frame index in the first four bytes and payload beat number in the next
four; the other beats and every other request of the lists stay, the tracker is RETURNING and the lane FREE. That a
FREE lane does nothing is the model's (log 2). -/
def Obligations.LaneCompleteResults : Prop :=
  ∀ (s : State) (lane : Nat), s.power.main = .up → lane < 4 →
    (s.engine.lanes.getD lane none = none → exec (.laneComplete lane) s = .next s.presentReport)
    ∧ ∀ (job : LaneJob) (e : Entry) (tr : Tracker), s.engine.lanes.getD lane none = some job →
        s.entry job.tag = some e → e.kind = .cipher tr → (job.beats.map (fun b => b.place)).Nodup →
        (∀ b ∈ job.beats, b.place < e.response.length) →
        ∃ t e', exec (.laneComplete lane) s = .next t
          ∧ t.engine = { s.engine with lanes := s.engine.lanes.set lane none }
          ∧ t.path.entries.map (fun f => f.tag) = s.path.entries.map (fun f => f.tag)
          ∧ t.path.entries.filter (fun f => decide (f.tag ≠ job.tag))
              = s.path.entries.filter (fun f => decide (f.tag ≠ job.tag))
          ∧ t.entry job.tag = some e' ∧ e' = { e with state := .composed, kind := e'.kind, response := e'.response }
          ∧ e'.kind = .cipher { tr with state := .returning, inputs := none }
          ∧ e'.response.length = e.response.length
          ∧ (∀ b ∈ job.beats, e'.response[b.place]? = some
              { data := b.ciphertext ^^^ Config.blockCipher job.key ((b.number ++ job.frameIndex).setWidth 128)
                response := .okay, plain := true })
          ∧ (∀ i, (∀ b ∈ job.beats, b.place ≠ i) → e'.response[i]? = e.response[i]?)
          ∧ Touches [.entries, .counters, .waiting, .engine] s t

/-! ## Memory's answers to writes -/

/-- WRITE_ANSWER to a burst no watcher but the report writer keeps: the request is COMPOSED with memory's response,
and on OKAY a pending consumer value below 512 becomes the consumer index; any other value, and SLVERR, leave it. -/
def Obligations.WriteAnswerResults : Prop :=
  ∀ (s : State) (tag : Nat) (response : Response) (e : Entry) (info : WriteInfo), s.power.main = .up →
    s.entry tag = some e → e.kind = .write info → e.state = .atMemory → info.kept = none → info.cells = [] →
    ∃ t, exec (.writeAnswer tag response) s = .next t
      ∧ t.path.entries = (s.editEntry tag (fun f =>
          { f with state := .composed, response := [{ data := 0, response := response, plain := false }] })).path.entries
      ∧ t.report = { s.report with
          consumer := match info.consumer with
            | none => s.report.consumer
            | some v => if response = .okay ∧ v.toNat < 512 then v.toNat else s.report.consumer }
      ∧ Touches [.entries, .counters, .waiting, .indices] s t

/-- Memory's answer to a burst the frame monitor kept. The burst is COMPOSED with memory's response. OKAY makes a
record READY that stands FILLING past its last payload beat with the kept generation and no other kept burst
unanswered; SLVERR breaks a HEADER or FILLING record with the kept generation MEMORY_ERROR; on any other record the
answer does nothing. -/
def Obligations.FrameAnswerResults : Prop :=
  ∀ (s : State) (tag : Nat) (e : Entry) (info : WriteInfo) (kept : Kept), s.power.main = .up →
    s.entry tag = some e → e.kind = .write info → e.state = .atMemory → info.kept = some kept → info.cells = [] →
    info.consumer = none → FrameLaw s → kept.stream < 16 → kept.slot < 64 →
    let f := s.frame kept.stream kept.slot
    let others := s.path.entries.any (fun g => match g.kind with
      | .write i => decide (i.kept = some kept ∧ g.tag ≠ tag ∧ g.state ≠ .composed)
      | _ => false)
    let composed (response : Response) : List Entry :=
      (s.editEntry tag (fun f =>
        { f with state := .composed, response := [{ data := 0, response := response, plain := false }] })).path.entries
    (∃ t, exec (.writeAnswer tag .okay) s = .next t ∧ t.report = s.report ∧ t.path.entries = composed .okay
      ∧ t.frame kept.stream kept.slot =
          (match f.state with
           | .filling o n h =>
             if n = 4 + h.payloadLength / 16 ∧ f.generation = kept.generation ∧ others = false then
               { state := .ready o h, generation := f.generation + 1 }
             else f
           | _ => f)
      ∧ (∀ i j, (i, j) ≠ (kept.stream, kept.slot) → t.frame i j = s.frame i j)
      ∧ Touches [.entries, .counters, .waiting, .frames] s t)
    ∧ (∃ t, exec (.writeAnswer tag .slverr) s = .next t ∧ t.path.entries = composed .slverr
        ∧ (∀ fill, f.state.fill = some fill → f.generation = kept.generation →
            t.frame kept.stream kept.slot =
              { state := .broken .memoryError f.state.writer f.state.parsed, generation := f.generation }
            ∧ t.report = s.report.stage (recordOfBreak s.recordSeconds kept.stream kept.slot .memoryError f.state.writer
                f.state.parsed e.source fill))
        ∧ (f.state.fill = none ∨ f.generation ≠ kept.generation → t.frames = s.frames ∧ t.report = s.report)
        ∧ (∀ i j, (i, j) ≠ (kept.stream, kept.slot) → t.frame i j = s.frame i j)
        ∧ Touches [.entries, .counters, .waiting, .frames, .report] s t)

/-- WRITE_ANSWER to a burst that touched cells. OKAY marks the burst's pending commit, SLVERR discards it with no
record. A commit is then taken when it is marked and no earlier write of its source into its cell is unanswered; the
others stay pending, one that waits for an earlier write being taken at that write's answer (log 21). Taken in the
order in which they were shown (the model's, log 43), commits join the queue's tail while it holds fewer than 8
entries, the first of them going to an IDLE verifier, which begins to read it; any beyond are refused BUSY. The burst
is COMPOSED, and its consumer value taken, as WriteAnswerResults says. No burst that touches a cell is kept for a
frame (RingLaw). -/
def Obligations.CommitResults : Prop :=
  ∀ (s : State) (tag : Nat) (response : Response) (e : Entry) (info : WriteInfo), s.power.main = .up →
    s.entry tag = some e → e.kind = .write info → e.state = .atMemory → info.kept = none → info.cells ≠ [] →
    QueueLaw s →
    let commits := s.commitsAnswered tag response
    let released := commits.filter (fun c => c.okay && !s.waitsForEarlier tag c)
    let joining := released.map (fun c => ({ cell := c.cell, fields := c.fields } : QueueEntry))
    let idle := decide (s.intake.verifier = .idle)
    let room := if idle then 9 else 8 - s.intake.queue.length
    let after : Report :=
      { s.report with
        consumer := match info.consumer with
          | none => s.report.consumer
          | some v => if response = Response.okay ∧ v.toNat < 512 then v.toNat else s.report.consumer }
    ∃ t, exec (.writeAnswer tag response) s = .next t
      ∧ t.path.entries = (s.editEntry tag (fun f =>
          { f with state := .composed, response := [{ data := 0, response := response, plain := false }] })).path.entries
      ∧ t.intake.commits = commits.filter (fun c => !(c.okay && !s.waitsForEarlier tag c))
      ∧ (idle = true → TakesHead t (joining.take room))
      ∧ (idle = false → t.intake.verifier = s.intake.verifier
          ∧ t.intake.queue = s.intake.queue ++ joining.take room)
      ∧ t.report = after.stageAll
          ((released.drop room).map (fun c => refusedRecord s c.fields c.cell .busy 0xFFFF))
      ∧ Touches [.entries, .counters, .waiting, .intake, .report, .indices] s t

/-! ## The verifier -/

/-- VERIFIER_READ_ANSWER: SLVERR on any beat refuses the parcel MEMORY_ERROR; a first burst whose header fails checks
1 to 3 is refused FORMAT, LENGTH or WRONG_DEVICE; else the beats join the buffer, and the verifier is CHECKING with
the parcel's beats alone, or reads its next beats, 16 at most and none beyond the parcel. The answered read is at
memory no longer, and pending commits stay. In DRAINING the answer is discarded, whatever it is, and the verifier is
IDLE or reads the next entry. -/
def Obligations.VerifierReadResults : Prop :=
  ∀ (s : State) (tag first count cell : Nat) (r : InternalRequest) (beats : List ReadBeat), s.power.main = .up →
    burstLength beats.length = true → s.internal.atMemory.find? (fun q => decide (q.tag = tag)) = some r →
    r.kind = .verifierRead cell first count → beats.length = count →
    (s.intake.verifier = .draining →
      ∃ t, exec (.verifierReadAnswer tag beats) s = .next t ∧ t.report = s.report
        ∧ t.internal.atMemory = s.internal.atMemory.filter (fun q => decide (q.tag ≠ tag))
        ∧ OwnerDone s t ∧ Touches [.counters, .waiting, .atMemory, .intake] s t)
    ∧ ∀ (captured : Captured) (buffer : List Beat), s.intake.verifier = .reading cell captured buffer →
    let filled := buffer ++ beats.map (fun b => b.data)
    let fields := capturedFields (filled.headD 0)
    let total := fields.length.toNat / 16
    let refuses (cause : RefusalCause) (named : Captured) : Prop :=
      ∃ t, exec (.verifierReadAnswer tag beats) s = .next t
        ∧ t.report = s.report.stage (refusedRecord s named cell cause 0xFFFF)
        ∧ t.internal.atMemory = s.internal.atMemory.filter (fun q => decide (q.tag ≠ tag))
        ∧ OwnerDone s t ∧ Touches [.counters, .waiting, .atMemory, .intake, .report] s t
    ((∃ b ∈ beats, b.response = .slverr) →
      refuses .memoryError (if buffer = [] then captured else capturedFields (buffer.headD 0)))
    ∧ (AllOkay beats → buffer = [] →
        let head := filled.headD 0
        let length := fields.length.toNat
        let known := head.extractLsb' 0 16 = 0x7C3E ∧ head.extractLsb' 16 8 = 1 ∧ 1 ≤ fields.kind ∧ fields.kind ≤ 5
        (¬ known → refuses .format fields)
        ∧ (known → ¬ LengthFits fields.kind length → refuses .length fields)
        ∧ (known → LengthFits fields.kind length → head.extractLsb' 80 48 ≠ s.fuses.deviceId →
            refuses .wrongDevice fields))
    ∧ (AllOkay beats →
        (buffer ≠ [] ∨ (filled.headD 0).extractLsb' 0 16 = 0x7C3E ∧ (filled.headD 0).extractLsb' 16 8 = 1
          ∧ LengthFits fields.kind fields.length.toNat ∧ (filled.headD 0).extractLsb' 80 48 = s.fuses.deviceId) →
        ∃ t, exec (.verifierReadAnswer tag beats) s = .next t ∧ t.report = s.report
          ∧ t.internal.atMemory = s.internal.atMemory.filter (fun q => decide (q.tag ≠ tag))
          ∧ t.intake.queue = s.intake.queue ∧ t.intake.commits = s.intake.commits
          ∧ (total ≤ filled.length → t.intake.verifier = .checking cell (filled.take total))
          ∧ (filled.length < total → t.intake.verifier = .reading cell captured filled
              ∧ ∃ q ∈ t.internal.waiting, q.kind = .verifierRead cell filled.length (min 16 (total - filled.length)))
          ∧ Touches [.counters, .waiting, .atMemory, .intake] s t)

/-- TAG_CHECK_COMPLETE: a parcel whose last 16 bytes are not the authentication of the rest under the root key is
refused TAG; a good one is refused TRIPPED while the latch is TRIPPED, unless it is a TIME parcel with RESYNC and
CLEAR_TRIP; else it is with its owner. -/
def Obligations.TagCheckResults : Prop :=
  ∀ (s : State) (cell : Nat) (buffer : List Beat), s.power.main = .up → s.intake.verifier = .checking cell buffer →
    let fields := capturedFields (buffer.headD 0)
    let b := timeBody (bytesOf buffer)
    let authentic := Config.messageAuthentication Config.deviceRootKey (bytesOf buffer.dropLast) = buffer.getLastD 0
    let clearing := fields.kind = 0x04 ∧ b.resync = true ∧ b.clearTrip = true
    let refuses (cause : RefusalCause) : Prop :=
      ∃ t, exec .tagCheckComplete s = .next t
        ∧ t.report = s.report.stage (refusedRecord s fields cell cause 0xFFFF)
        ∧ OwnerDone s t ∧ Touches [.counters, .waiting, .intake, .report] s t
    (¬ authentic → refuses .tag)
    ∧ (authentic → s.trip.latch ≠ .normal → ¬ clearing → refuses .tripped)
    ∧ (authentic → (s.trip.latch = .normal ∨ clearing) →
        exec .tagCheckComplete s = .next
          (s.setIntake { s.intake with verifier := .withOwner cell buffer }).presentReport)

/-! ## The parcels of the key table and the plan unit -/

/-- A GRANT that passes its checks is applied: each entry's key stands in a slot with the entry's revision and value
and the common part's fields; a new one is WAITING before not-before and OPEN from it, an update of a WAITING one
opens when its window has begun; a new key takes the lowest EMPTY slot, in entry order; every other key stays; the
generation rises once and once more for each opening by update. The records are KEY_OPENED ON_GRANT of each key
opened, in entry order, and then PARCEL_TAKEN with the counts of new and updated keys and the generation. -/
def Obligations.GrantApplied : Prop :=
  ∀ (s : State) (p : Dispatched), s.dispatched .grant = some p →
    let c := grantCommon p.bytes
    let entries := grantEntries p.bytes p.fields.length.toNat
    let opensByUpdate (e : GrantEntry) : Bool :=
      match s.findKey e.keyId with
      | none => false
      | some (_, k) => decide (k.state = .waiting ∧ c.notBefore ≤ s.clock.reading / 65536)
    let new := entries.countP (fun e => (s.findKey e.keyId).isNone)
    let generation := s.keys.generation + BitVec.ofNat 16 (entries.countP opensByUpdate + 1)
    GrantPasses s c entries → KeyTableLaw s →
    ∃ t, exec .grant s = .next t
      ∧ t.keys.generation = generation
      ∧ (∀ e ∈ entries, ∃ slot k, t.findKey e.keyId = some (slot, k) ∧ slot = s.grantSlot entries e
          ∧ k.keyId = e.keyId ∧ k.revision = e.revision ∧ k.feature = c.feature ∧ k.auditoriums = c.auditoriums
          ∧ k.notBefore = c.notBefore ∧ k.notAfter = c.notAfter ∧ k.grace = c.grace ∧ k.maxRun = c.maxRun
          ∧ k.allowance = (if c.allowanceBase = 0 then none
              else some { base := c.allowanceBase, current := c.allowanceBase })
          ∧ k.daily = c.flags.testBit 0
          ∧ k.value = Config.unwrap (Config.wrappingKey Config.deviceRootKey e.keyId e.revision) e.wrapped
          ∧ (match s.findKey e.keyId with
             | none => k.noticeGiven = false ∧ s.key slot = none
                 ∧ k.state = (if s.clock.reading / 65536 < c.notBefore then .waiting else .opened)
             | some (old, before) => slot = old ∧ k.noticeGiven = before.noticeGiven
                 ∧ k.state = (if opensByUpdate e then .opened else before.state)))
      ∧ (∀ id, (∀ e ∈ entries, e.keyId ≠ id) → t.findKey id = s.findKey id)
      ∧ t.report = s.report.stageAll (entries.filterMap (s.grantRecord c entries)
          ++ [takenRecord s p (BitVec.ofNat 32 new) (BitVec.ofNat 32 (entries.length - new)) (generation.setWidth 32)])
      ∧ OwnerDone s t ∧ Touches [.keys, .report, .counters, .waiting, .intake] s t

/-- A REVOKE that passes its checks is applied: IMMEDIATE empties every slot it names and ends every lease that lists
such a key with LEASE_ENDED REVOKED, and no other; AFTER_SHOW withdraws an OPEN or CLOSED key that a lease lists,
leaves a listed WITHDRAWN one, and empties the rest. A key not named stays, but for a WITHDRAWN one whose last listing
lease ended, which is freed. Of the list, an entry that a REVOKE entry names is merged, with the higher revision, the
later retain-until and the condition just computed; a new one joins with its computed retain-until (log 36) exactly
when that lies after now and a place is free at its turn; one not named stays, settled where its slot was freed. The
generation rises once. The key records come first in entry order; a slot that a lease end frees has exactly one
KEY_FREED LAST_LEASE_ENDED, after the LEASE_ENDED of every lease that listed its key; and PARCEL_TAKEN with the counts
of slots emptied, slots withdrawn and entries not durable comes last, where R155 lets LEASE_ENDED and KEY_FREED stand
on either side of it (the model's choice, log 9). -/
def Obligations.RevokeApplied : Prop :=
  ∀ (s : State) (p : Dispatched) (mode : RevokeMode), s.dispatched .revoke = some p →
    let c := revokeCommon p.bytes
    let entries := revokeEntries p.bytes p.fields.length.toNat
    let now := s.clock.reading / 65536
    RevokePasses s c entries mode → KeyTableLaw s → LeaseLaw s → RevocationLaw s →
    ∃ t, exec .revoke s = .next t
      ∧ t.keys.generation = s.keys.generation + 1
      ∧ (∀ e ∈ entries, mode = .immediate →
          t.findKey e.keyId = none ∧ (s.findKey e.keyId ≠ none → t.anyLists e.keyId = false))
      ∧ (∀ e ∈ entries, mode = .afterShow → ∀ slot k, s.findKey e.keyId = some (slot, k) →
          t.findKey e.keyId =
            (if s.anyLists e.keyId = true ∧ k.state ≠ .waiting then
               some (slot, { k with state := .withdrawn })
             else none))
      ∧ (∀ e ∈ entries, s.findKey e.keyId = none → t.findKey e.keyId = none)
      ∧ (∀ id, (∀ e ∈ entries, e.keyId ≠ id) →
          t.findKey id =
            match s.findKey id with
            | none => none
            | some (slot, k) =>
              if k.state = .withdrawn ∧ s.anyLists id = true ∧ t.anyLists id = false then none else some (slot, k))
      ∧ (mode = .afterShow → t.leases = s.leases)
      ∧ (mode = .immediate → ∀ i < 16,
          match s.lease i with
          | .serving st sh => t.lease i = if (revokedBy s entries sh).isSome then .idle else .serving st sh
          | other => t.lease i = other)
      ∧ ListRevokes s t mode entries
      ∧ (∃ ends : List Record,
          t.report = s.report.stageAll (entries.filterMap (revokeRecord s mode p.fields.number) ++ ends ++
            [takenRecord s p (BitVec.ofNat 32 (entries.countP (revokeEmpties s mode)))
              (BitVec.ofNat 32 (entries.countP (revokeWithdraws s mode)))
              (BitVec.ofNat 32 (entries.countP (fun e => decide (now < revokeRetain s e
                ∧ ∀ r ∈ t.revocations, r.keyId ≠ e.keyId))))])
          ∧ (mode = .afterShow → ends = [])
          ∧ (mode = .immediate → ends.filter (fun q => decide (q.kind = .leaseEnded)) = revokeEnds s entries)
          ∧ (∀ slot k, s.key slot = some k → t.key slot = none → (∀ e ∈ entries, e.keyId ≠ k.keyId) →
              ∃ earlier later, ends = earlier ++ lastEndRecord now slot k :: later
                ∧ lastEndRecord now slot k ∉ earlier ++ later
                ∧ ∀ i st sh, s.lease i = .serving st sh → k.keyId ∈ sh.keys →
                    recordOfEnd s.recordSeconds i .revoked sh ∈ earlier)
          ∧ ∀ q ∈ ends, q.kind = .leaseEnded
              ∨ ∃ slot k, s.key slot = some k ∧ t.key slot = none ∧ (∀ e ∈ entries, e.keyId ≠ k.keyId)
                  ∧ q = lastEndRecord now slot k)
      ∧ OwnerDone s t ∧ Touches [.keys, .revocations, .leases, .report, .counters, .waiting, .intake] s t

/-- A PLAN that passes its checks is applied: revision, fill pattern and arbitration mode are the parcel's; a SET
gives its stream the entry's fields, enabled, and raises its generation when it was disabled or anything but the
reserved trackers changes; a RETIRE disables its stream, keeps its fields and raises its generation; the other streams
stay. A stream whose generation does not move keeps its lease and, while no write waits, its frame records, and the
verifier is then rid of the parcel and nothing more. A moved stream's lease that was not busy, and every lease of a
retired one, is IDLE, and while no write waits every frame record of it is VACANT under a new generation. The requests
of the lists stay, and the waiting heads are tried again: none that could be accepted is left, and one alone fares as
a request offered after the PLAN would. A retired stream's show ends with LEASE_ENDED RETIRED, which frees the
WITHDRAWN keys that no lease lists any more and settles their revocations. The day is evaluated with the parcel's day
offset, with DAY_BEGAN BY_OFFSET and the DAILY reload where a day begins; nothing else of the clock changes. The
status beat is due, and the parcel is TAKEN last, where R169 lets KEY_FREED stand on either side of it (the model's
choice, log 9), with the streams moved and the streams enabled. -/
def Obligations.PlanApplied : Prop :=
  ∀ (s : State) (p : Dispatched), s.dispatched .plan = some p →
    let c := planCommon p.bytes
    let entries := planEntries p.bytes p.fields.length.toNat
    let now := s.clock.reading / 65536
    let newDay := decide (s.clock.state ≠ .unset ∧ s.clock.day < dayNumber now c.dayOffset)
    let noWrites : Prop :=
      (∀ h ∈ s.path.heads, ∃ r, h.request = .read r) ∧ ∀ q ∈ s.path.behind, ∃ r, q = .read r
    PlanPasses s c entries → PathLaw s → LeaseLaw s → FrameLaw s →
    ∃ t, exec .plan s = .next t
      ∧ t.plan.revision = c.revision ∧ t.plan.fill = c.fill
      ∧ t.plan.arbitration = (if c.arbitration = 1 then .rotating else .fixed)
      ∧ (∀ e ∈ entries, e.action = 1 →
          let old := s.stream e.stream
          t.stream e.stream =
            { enabled := true, source := e.source, mode := if e.mode = 1 then .show else .check
              sizeCode := e.sizeCode, slotCount := e.slotCount, base := e.base, reserved := e.reserved
              generation :=
                if old.enabled = true ∧ old.source = e.source ∧ old.mode = (if e.mode = 1 then .show else .check)
                  ∧ old.sizeCode = e.sizeCode ∧ old.slotCount = e.slotCount ∧ old.base = e.base then old.generation
                else old.generation + 1 })
      ∧ (∀ e ∈ entries, e.action = 2 →
          t.stream e.stream =
            { s.stream e.stream with enabled := false, generation := (s.stream e.stream).generation + 1 }
          ∧ t.lease e.stream = .idle)
      ∧ (∀ i, (∀ e ∈ entries, e.stream ≠ i) → t.stream i = s.stream i)
      ∧ (∀ i, (t.stream i).generation = (s.stream i).generation →
          t.lease i = s.lease i ∧ (noWrites → ∀ j, t.frame i j = s.frame i j))
      ∧ (∀ e ∈ entries, (t.stream e.stream).generation ≠ (s.stream e.stream).generation →
          t.lease e.stream = .idle
          ∧ (noWrites → ∀ j < 64,
              t.frame e.stream j = { state := .vacant, generation := (s.frame e.stream j).generation + 1 }))
      ∧ (let day := dayEvaluated now c.dayOffset s.clock.day s.clock.budget s.clock.suspectCount
         t.clock = if s.clock.state = .unset then { s.clock with dayOffset := c.dayOffset }
           else { s.clock with dayOffset := c.dayOffset, day := day.1, budget := day.2.1, suspectCount := day.2.2 })
      ∧ (KeyTableLaw s → KeysMove s t some 0 newDay
          ∧ ∀ slot k, s.key slot = some k → t.key slot = none →
              HandsAmong s.report t.report (recordOfKey s.recordSeconds .keyFreed 2 slot k now))
      ∧ (KeyTableLaw s → t.revocations = s.listSettled t now)
      ∧ (newDay = true → HandsAmong s.report t.report (s.dayRecord .byOffset now c.dayOffset))
      ∧ (∀ e ∈ entries, e.action = 2 → ∀ st sh, s.lease e.stream = .serving st sh →
          HandsAmong s.report t.report (recordOfEnd s.recordSeconds e.stream .retired sh))
      ∧ t.report.statusPending = true ∧ (noWrites → OwnerDone s t)
      ∧ (∃ q : Record, HandsLast t.report q ∧ q.kind = .parcelTaken ∧ q.subject = p.fields.number
          ∧ q.data0 = c.revision
          ∧ (∀ i < 16, q.data1.getLsbD i = decide ((t.stream i).generation ≠ (s.stream i).generation))
          ∧ ∀ i < 16, q.data2.getLsbD i = (t.stream i).enabled)
      ∧ s.path.entries <+: t.path.entries ∧ (WaitLaw s → WaitLaw t)
      ∧ (s.path.heads = [] →
          t.path.entries = s.path.entries ∧ t.path.heads = [] ∧ t.path.behind = s.path.behind)
      ∧ (∀ h, s.path.heads = [h] → s.path.behind = [] → (offer h.request).wellFormed = true →
          ∃ u, exec .plan (s.setPath { s.path with heads := [] }) = .next u
            ∧ (¬ Acceptable u h.request → t.path.heads = [h] ∧ t.path.entries = u.path.entries)
            ∧ (Acceptable u h.request → ∃ v, exec (offer h.request) u = .next v ∧ t.path.heads = []
                ∧ t.frames = v.frames
                ∧ t.path.entries.map (fun e => { e with tag := 0 }) = v.path.entries.map (fun e => { e with tag := 0 })))
      ∧ Touches [.plan, .frames, .leases, .keys, .revocations, .clock, .entries, .heads, .counters, .waiting, .intake, .report,
          .status] s t

/-- A GRANT, REVOKE or PLAN that fails a check is refused with the cause and entry index of the first check it fails, in
the order of R7, R149 and R161, and nothing else happens: no slot, list entry, stream, lease, frame or generation
changes. A GRANT entry whose key ID is LISTED at its revision or above and whose fields are good is refused, BAD_WRAP
where its value unwraps badly, else REVOKED. -/
def Obligations.OwnersRefuse : Prop :=
  ∀ (s : State) (p : Dispatched),
    let refused (i : Instr) (cause : RefusalCause) (index : BitVec 16) : Prop :=
      ∃ t, exec i s = .next t ∧ t.report = s.report.stage (refusedRecord s p.fields p.cell cause index)
        ∧ OwnerDone s t ∧ Touches [.counters, .waiting, .intake, .report] s t
    (s.dispatched .grant = some p →
      (∀ cause index, GrantRefused s (grantCommon p.bytes) (grantEntries p.bytes p.fields.length.toNat)
        cause index → refused .grant cause index)
      ∧ (s.trip.latch ≠ .normal → refused .grant .tripped 0xFFFF))
    ∧ (s.dispatched .revoke = some p →
        (∀ cause index, RevokeRefused s (revokeCommon p.bytes)
          (revokeEntries p.bytes p.fields.length.toNat) cause index → refused .revoke cause index)
        ∧ (s.trip.latch ≠ .normal → refused .revoke .tripped 0xFFFF))
    ∧ (s.dispatched .plan = some p →
        (∀ cause index, s.plan.streams.length = 16 →
          PlanRefused s (planCommon p.bytes) (planEntries p.bytes p.fields.length.toNat) cause index →
            refused .plan cause index)
        ∧ (s.trip.latch ≠ .normal → refused .plan .tripped 0xFFFF)
        ∧ (s.trip.latch = .normal → (planCommon p.bytes).revision ≤ s.plan.revision → refused .plan .stale 0xFFFF))
    ∧ (∀ (c : GrantCommon) (e : GrantEntry) (r : Revocation), c.isBad = false → e.isBad = false →
        findRevocation e.keyId s.revocations = some r → r.condition = .listed → e.revision ≤ r.revision →
        s.grantEntryFault c e = some (if badValue e.value then .badWrap else .revoked))

/-- R13: a GRANT entry fails EXPIRED_ON_ARRIVAL exactly when it passed the checks before and now is at or past its
not-after, whatever its not-before; and no GRANT, taken or refused, installs a CLOSED key or updates one into CLOSED: a
slot that is CLOSED after it was the same before. -/
def Obligations.ExpiredOnArrival : Prop :=
  (∀ (s : State) (c : GrantCommon) (e : GrantEntry),
    s.grantEntryFault c e = some .expiredOnArrival ↔
      c.isBad = false ∧ e.isBad = false ∧ badValue e.value = false ∧ s.isRevoked e = false
        ∧ c.notAfter ≤ s.clock.reading / 65536)
  ∧ (∀ (s : State) (c : GrantCommon) (e : GrantEntry) (notBefore : Nat), c.isBad = false →
      ({ c with notBefore := notBefore } : GrantCommon).isBad = false →
      s.grantEntryFault { c with notBefore := notBefore } e = s.grantEntryFault c e)
  ∧ ∀ (s t : State) (p : Dispatched), s.dispatched .grant = some p → exec .grant s = .next t →
      ∀ slot k, t.key slot = some k → k.state = .closed → s.key slot = some k

/-! ## The report writer -/

/-- RECORD_WRITE_ANSWER: OKAY takes the record out of staging, advances the producer index from 511 to 0 at the end of
the ring and makes the status beat due; SLVERR drops the record and sets LOST. CONTROL_WRITE_ANSWER to a status or an
identity write ends the request and no more, whatever the response. -/
def Obligations.InternalAnswerResults : Prop :=
  ∀ (s : State) (tag : Nat) (r : InternalRequest), s.power.main = .up →
    s.internal.atMemory.find? (fun q => decide (q.tag = tag)) = some r →
    let ended := s.setInternal
      { s.internal with atMemory := s.internal.atMemory.filter (fun q => decide (q.tag ≠ tag)) }
    (r.kind = .recordWrite →
      exec (.recordWriteAnswer tag .okay) s = .next (ended.setReport
        { s.report with staging := s.report.staging.tail, producer := (s.report.producer + 1) % 512
                        statusPending := true }).presentReport
      ∧ exec (.recordWriteAnswer tag .slverr) s = .next (ended.setReport
          { s.report with staging := s.report.staging.tail, lost := true }).presentReport)
    ∧ (r.kind = .statusWrite ∨ r.kind = .identityWrite →
        ∀ response, exec (.controlWriteAnswer tag response) s = .next ended.presentReport)

/-- R185: ATTN is high while the producer index differs from the consumer index and low while they are equal, in every
state and so after every act that changes either; it is low while RESET_N is asserted or VMAIN is absent; and from
the end of a reset it follows the indices, which both start at 0. -/
def Obligations.AttnFollowsIndices : Prop :=
  (∀ s : State, s.power.main = .up → (s.attn = true ↔ s.report.producer ≠ s.report.consumer))
  ∧ (∀ s : State, s.power.main = .inReset ∨ s.power.main = .off → s.attn = false)
  ∧ (∀ (s t : State) (sel : BitVec 2), s.power.main = .inReset → exec (.warmReset (.release sel)) s = .next t →
      t.report.producer = 0 ∧ t.report.consumer = 0 ∧ t.attn = false)
  ∧ (∀ (s t : State) (tamper : TamperLevel) (sel : BitVec 2), s.power.main = .off →
      exec (.coldPowerUp tamper sel) s = .next t →
      t.report.producer = 0 ∧ t.report.consumer = 0 ∧ t.attn = false)

/-! ## The laws that every step keeps -/

/-- No two slots ever hold one key ID, and every key keeps to its ranges. -/
def Obligations.KeyTableLawKept : Prop :=
  ∀ s t : State, KeyTableLaw s → step s = .next t → KeyTableLaw t

/-- The revocation list keeps its bound, its order and its single entries, a PENDING entry always has its WITHDRAWN
slot, no slot ever holds a key LISTED at its revision or above, and no LISTED entry outstays its retain-until. -/
def Obligations.RevocationLawKept : Prop :=
  ∀ s t : State, RevocationLaw s → KeyTableLaw s → step s = .next t → RevocationLaw t

/-- A lease's key list keeps to 1 to 8 distinct key IDs. -/
def Obligations.LeaseLawKept : Prop :=
  ∀ s t : State, LeaseLaw s → step s = .next t → LeaseLaw t

/-- Every frame record's fill counter keeps to its range. -/
def Obligations.FrameLawKept : Prop :=
  ∀ s t : State, FrameLaw s → step s = .next t → FrameLaw t

/-- A tag names one request, a lane's burst is IN_LANE, and only decided bursts hold beats decided PLAIN. -/
def Obligations.TagLawKept : Prop :=
  ∀ s t : State, TagLaw s → step s = .next t → TagLaw t

/-- While the part is TRIPPED, nothing can restart keyed service: every slot stays EMPTY, every lease IDLE, every lane
FREE, and no beat decided PLAIN is left to return. -/
def Obligations.TripLawKept : Prop :=
  ∀ s t : State, TripLaw s → KeyTableLaw s → LeaseLaw s → TagLaw s → step s = .next t → TripLaw t

/-- The report writer keeps its bounds and one request outstanding; the lists, the trackers and the stream table keep
theirs; enabled rings stay apart from each other and from the intake window, with bound sources of their own; and each
source keeps one waiting head at most, none of which could be accepted. -/
def Obligations.BoundsKept : Prop :=
  ∀ s t : State, step s = .next t → (ReportLaw s → ReportLaw t) ∧ (PathLaw s → PathLaw t)
    ∧ (RingLaw s → RingLaw t) ∧ (WaitLaw s → WaitLaw t)

/-- The intake queue never holds a cell twice nor the cell under verification, and is empty while the verifier is
IDLE. -/
def Obligations.QueueLawKept : Prop :=
  ∀ s t : State, QueueLaw s → step s = .next t → QueueLaw t

/-- The clock's fields keep to their ranges: a slew never wants more than the budget holds, and an UNSET clock comes
with a TRIPPED latch. -/
def Obligations.ClockLawKept : Prop :=
  ∀ s t : State, ClockLaw s → step s = .next t → ClockLaw t

/-- The state right after reset meets every law. -/
def Obligations.LawsHoldAtReset : Prop :=
  KeyTableLaw State.reset ∧ RevocationLaw State.reset ∧ LeaseLaw State.reset ∧ FrameLaw State.reset
  ∧ TagLaw State.reset ∧ TripLaw State.reset ∧ ReportLaw State.reset ∧ PathLaw State.reset ∧ QueueLaw State.reset
  ∧ ClockLaw State.reset ∧ RingLaw State.reset ∧ WaitLaw State.reset

end Slice0
end

