-- ==== Sys2Proof/Laws/State.lean ====
section
/-! SUPPORT. One lemma per field for every update of a block of the state, each by rfl. -/

namespace Sys2Proof.Machine

@[simp] theorem State.setPower_fuses (s : State) (v) : (s.setPower v).fuses = s.fuses := rfl
@[simp] theorem State.setPower_power (s : State) (v) : (s.setPower v).power = v := rfl
@[simp] theorem State.setPower_intakeSel (s : State) (v) : (s.setPower v).intakeSel = s.intakeSel := rfl
@[simp] theorem State.setPower_clock (s : State) (v) : (s.setPower v).clock = s.clock := rfl
@[simp] theorem State.setPower_revocations (s : State) (v) : (s.setPower v).revocations = s.revocations := rfl
@[simp] theorem State.setPower_trip (s : State) (v) : (s.setPower v).trip = s.trip := rfl
@[simp] theorem State.setPower_keys (s : State) (v) : (s.setPower v).keys = s.keys := rfl
@[simp] theorem State.setPower_leases (s : State) (v) : (s.setPower v).leases = s.leases := rfl
@[simp] theorem State.setPower_frames (s : State) (v) : (s.setPower v).frames = s.frames := rfl
@[simp] theorem State.setPower_engine (s : State) (v) : (s.setPower v).engine = s.engine := rfl
@[simp] theorem State.setPower_path (s : State) (v) : (s.setPower v).path = s.path := rfl
@[simp] theorem State.setPower_internal (s : State) (v) : (s.setPower v).internal = s.internal := rfl
@[simp] theorem State.setPower_intake (s : State) (v) : (s.setPower v).intake = s.intake := rfl
@[simp] theorem State.setPower_plan (s : State) (v) : (s.setPower v).plan = s.plan := rfl
@[simp] theorem State.setPower_report (s : State) (v) : (s.setPower v).report = s.report := rfl
@[simp] theorem State.setPower_draws (s : State) (v) : (s.setPower v).draws = s.draws := rfl
@[simp] theorem State.setPower_pending (s : State) (v) : (s.setPower v).pending = s.pending := rfl

@[simp] theorem State.setIntakeSel_fuses (s : State) (v) : (s.setIntakeSel v).fuses = s.fuses := rfl
@[simp] theorem State.setIntakeSel_power (s : State) (v) : (s.setIntakeSel v).power = s.power := rfl
@[simp] theorem State.setIntakeSel_intakeSel (s : State) (v) : (s.setIntakeSel v).intakeSel = v := rfl
@[simp] theorem State.setIntakeSel_clock (s : State) (v) : (s.setIntakeSel v).clock = s.clock := rfl
@[simp] theorem State.setIntakeSel_revocations (s : State) (v) : (s.setIntakeSel v).revocations = s.revocations := rfl
@[simp] theorem State.setIntakeSel_trip (s : State) (v) : (s.setIntakeSel v).trip = s.trip := rfl
@[simp] theorem State.setIntakeSel_keys (s : State) (v) : (s.setIntakeSel v).keys = s.keys := rfl
@[simp] theorem State.setIntakeSel_leases (s : State) (v) : (s.setIntakeSel v).leases = s.leases := rfl
@[simp] theorem State.setIntakeSel_frames (s : State) (v) : (s.setIntakeSel v).frames = s.frames := rfl
@[simp] theorem State.setIntakeSel_engine (s : State) (v) : (s.setIntakeSel v).engine = s.engine := rfl
@[simp] theorem State.setIntakeSel_path (s : State) (v) : (s.setIntakeSel v).path = s.path := rfl
@[simp] theorem State.setIntakeSel_internal (s : State) (v) : (s.setIntakeSel v).internal = s.internal := rfl
@[simp] theorem State.setIntakeSel_intake (s : State) (v) : (s.setIntakeSel v).intake = s.intake := rfl
@[simp] theorem State.setIntakeSel_plan (s : State) (v) : (s.setIntakeSel v).plan = s.plan := rfl
@[simp] theorem State.setIntakeSel_report (s : State) (v) : (s.setIntakeSel v).report = s.report := rfl
@[simp] theorem State.setIntakeSel_draws (s : State) (v) : (s.setIntakeSel v).draws = s.draws := rfl
@[simp] theorem State.setIntakeSel_pending (s : State) (v) : (s.setIntakeSel v).pending = s.pending := rfl

@[simp] theorem State.setClock_fuses (s : State) (v) : (s.setClock v).fuses = s.fuses := rfl
@[simp] theorem State.setClock_power (s : State) (v) : (s.setClock v).power = s.power := rfl
@[simp] theorem State.setClock_intakeSel (s : State) (v) : (s.setClock v).intakeSel = s.intakeSel := rfl
@[simp] theorem State.setClock_clock (s : State) (v) : (s.setClock v).clock = v := rfl
@[simp] theorem State.setClock_revocations (s : State) (v) : (s.setClock v).revocations = s.revocations := rfl
@[simp] theorem State.setClock_trip (s : State) (v) : (s.setClock v).trip = s.trip := rfl
@[simp] theorem State.setClock_keys (s : State) (v) : (s.setClock v).keys = s.keys := rfl
@[simp] theorem State.setClock_leases (s : State) (v) : (s.setClock v).leases = s.leases := rfl
@[simp] theorem State.setClock_frames (s : State) (v) : (s.setClock v).frames = s.frames := rfl
@[simp] theorem State.setClock_engine (s : State) (v) : (s.setClock v).engine = s.engine := rfl
@[simp] theorem State.setClock_path (s : State) (v) : (s.setClock v).path = s.path := rfl
@[simp] theorem State.setClock_internal (s : State) (v) : (s.setClock v).internal = s.internal := rfl
@[simp] theorem State.setClock_intake (s : State) (v) : (s.setClock v).intake = s.intake := rfl
@[simp] theorem State.setClock_plan (s : State) (v) : (s.setClock v).plan = s.plan := rfl
@[simp] theorem State.setClock_report (s : State) (v) : (s.setClock v).report = s.report := rfl
@[simp] theorem State.setClock_draws (s : State) (v) : (s.setClock v).draws = s.draws := rfl
@[simp] theorem State.setClock_pending (s : State) (v) : (s.setClock v).pending = s.pending := rfl

@[simp] theorem State.setRevocations_fuses (s : State) (v) : (s.setRevocations v).fuses = s.fuses := rfl
@[simp] theorem State.setRevocations_power (s : State) (v) : (s.setRevocations v).power = s.power := rfl
@[simp] theorem State.setRevocations_intakeSel (s : State) (v) : (s.setRevocations v).intakeSel = s.intakeSel := rfl
@[simp] theorem State.setRevocations_clock (s : State) (v) : (s.setRevocations v).clock = s.clock := rfl
@[simp] theorem State.setRevocations_revocations (s : State) (v) : (s.setRevocations v).revocations = v := rfl
@[simp] theorem State.setRevocations_trip (s : State) (v) : (s.setRevocations v).trip = s.trip := rfl
@[simp] theorem State.setRevocations_keys (s : State) (v) : (s.setRevocations v).keys = s.keys := rfl
@[simp] theorem State.setRevocations_leases (s : State) (v) : (s.setRevocations v).leases = s.leases := rfl
@[simp] theorem State.setRevocations_frames (s : State) (v) : (s.setRevocations v).frames = s.frames := rfl
@[simp] theorem State.setRevocations_engine (s : State) (v) : (s.setRevocations v).engine = s.engine := rfl
@[simp] theorem State.setRevocations_path (s : State) (v) : (s.setRevocations v).path = s.path := rfl
@[simp] theorem State.setRevocations_internal (s : State) (v) : (s.setRevocations v).internal = s.internal := rfl
@[simp] theorem State.setRevocations_intake (s : State) (v) : (s.setRevocations v).intake = s.intake := rfl
@[simp] theorem State.setRevocations_plan (s : State) (v) : (s.setRevocations v).plan = s.plan := rfl
@[simp] theorem State.setRevocations_report (s : State) (v) : (s.setRevocations v).report = s.report := rfl
@[simp] theorem State.setRevocations_draws (s : State) (v) : (s.setRevocations v).draws = s.draws := rfl
@[simp] theorem State.setRevocations_pending (s : State) (v) : (s.setRevocations v).pending = s.pending := rfl

@[simp] theorem State.setTrip_fuses (s : State) (v) : (s.setTrip v).fuses = s.fuses := rfl
@[simp] theorem State.setTrip_power (s : State) (v) : (s.setTrip v).power = s.power := rfl
@[simp] theorem State.setTrip_intakeSel (s : State) (v) : (s.setTrip v).intakeSel = s.intakeSel := rfl
@[simp] theorem State.setTrip_clock (s : State) (v) : (s.setTrip v).clock = s.clock := rfl
@[simp] theorem State.setTrip_revocations (s : State) (v) : (s.setTrip v).revocations = s.revocations := rfl
@[simp] theorem State.setTrip_trip (s : State) (v) : (s.setTrip v).trip = v := rfl
@[simp] theorem State.setTrip_keys (s : State) (v) : (s.setTrip v).keys = s.keys := rfl
@[simp] theorem State.setTrip_leases (s : State) (v) : (s.setTrip v).leases = s.leases := rfl
@[simp] theorem State.setTrip_frames (s : State) (v) : (s.setTrip v).frames = s.frames := rfl
@[simp] theorem State.setTrip_engine (s : State) (v) : (s.setTrip v).engine = s.engine := rfl
@[simp] theorem State.setTrip_path (s : State) (v) : (s.setTrip v).path = s.path := rfl
@[simp] theorem State.setTrip_internal (s : State) (v) : (s.setTrip v).internal = s.internal := rfl
@[simp] theorem State.setTrip_intake (s : State) (v) : (s.setTrip v).intake = s.intake := rfl
@[simp] theorem State.setTrip_plan (s : State) (v) : (s.setTrip v).plan = s.plan := rfl
@[simp] theorem State.setTrip_report (s : State) (v) : (s.setTrip v).report = s.report := rfl
@[simp] theorem State.setTrip_draws (s : State) (v) : (s.setTrip v).draws = s.draws := rfl
@[simp] theorem State.setTrip_pending (s : State) (v) : (s.setTrip v).pending = s.pending := rfl

@[simp] theorem State.setKeys_fuses (s : State) (v) : (s.setKeys v).fuses = s.fuses := rfl
@[simp] theorem State.setKeys_power (s : State) (v) : (s.setKeys v).power = s.power := rfl
@[simp] theorem State.setKeys_intakeSel (s : State) (v) : (s.setKeys v).intakeSel = s.intakeSel := rfl
@[simp] theorem State.setKeys_clock (s : State) (v) : (s.setKeys v).clock = s.clock := rfl
@[simp] theorem State.setKeys_revocations (s : State) (v) : (s.setKeys v).revocations = s.revocations := rfl
@[simp] theorem State.setKeys_trip (s : State) (v) : (s.setKeys v).trip = s.trip := rfl
@[simp] theorem State.setKeys_keys (s : State) (v) : (s.setKeys v).keys = v := rfl
@[simp] theorem State.setKeys_leases (s : State) (v) : (s.setKeys v).leases = s.leases := rfl
@[simp] theorem State.setKeys_frames (s : State) (v) : (s.setKeys v).frames = s.frames := rfl
@[simp] theorem State.setKeys_engine (s : State) (v) : (s.setKeys v).engine = s.engine := rfl
@[simp] theorem State.setKeys_path (s : State) (v) : (s.setKeys v).path = s.path := rfl
@[simp] theorem State.setKeys_internal (s : State) (v) : (s.setKeys v).internal = s.internal := rfl
@[simp] theorem State.setKeys_intake (s : State) (v) : (s.setKeys v).intake = s.intake := rfl
@[simp] theorem State.setKeys_plan (s : State) (v) : (s.setKeys v).plan = s.plan := rfl
@[simp] theorem State.setKeys_report (s : State) (v) : (s.setKeys v).report = s.report := rfl
@[simp] theorem State.setKeys_draws (s : State) (v) : (s.setKeys v).draws = s.draws := rfl
@[simp] theorem State.setKeys_pending (s : State) (v) : (s.setKeys v).pending = s.pending := rfl

@[simp] theorem State.setLeases_fuses (s : State) (v) : (s.setLeases v).fuses = s.fuses := rfl
@[simp] theorem State.setLeases_power (s : State) (v) : (s.setLeases v).power = s.power := rfl
@[simp] theorem State.setLeases_intakeSel (s : State) (v) : (s.setLeases v).intakeSel = s.intakeSel := rfl
@[simp] theorem State.setLeases_clock (s : State) (v) : (s.setLeases v).clock = s.clock := rfl
@[simp] theorem State.setLeases_revocations (s : State) (v) : (s.setLeases v).revocations = s.revocations := rfl
@[simp] theorem State.setLeases_trip (s : State) (v) : (s.setLeases v).trip = s.trip := rfl
@[simp] theorem State.setLeases_keys (s : State) (v) : (s.setLeases v).keys = s.keys := rfl
@[simp] theorem State.setLeases_leases (s : State) (v) : (s.setLeases v).leases = v := rfl
@[simp] theorem State.setLeases_frames (s : State) (v) : (s.setLeases v).frames = s.frames := rfl
@[simp] theorem State.setLeases_engine (s : State) (v) : (s.setLeases v).engine = s.engine := rfl
@[simp] theorem State.setLeases_path (s : State) (v) : (s.setLeases v).path = s.path := rfl
@[simp] theorem State.setLeases_internal (s : State) (v) : (s.setLeases v).internal = s.internal := rfl
@[simp] theorem State.setLeases_intake (s : State) (v) : (s.setLeases v).intake = s.intake := rfl
@[simp] theorem State.setLeases_plan (s : State) (v) : (s.setLeases v).plan = s.plan := rfl
@[simp] theorem State.setLeases_report (s : State) (v) : (s.setLeases v).report = s.report := rfl
@[simp] theorem State.setLeases_draws (s : State) (v) : (s.setLeases v).draws = s.draws := rfl
@[simp] theorem State.setLeases_pending (s : State) (v) : (s.setLeases v).pending = s.pending := rfl

@[simp] theorem State.setFrames_fuses (s : State) (v) : (s.setFrames v).fuses = s.fuses := rfl
@[simp] theorem State.setFrames_power (s : State) (v) : (s.setFrames v).power = s.power := rfl
@[simp] theorem State.setFrames_intakeSel (s : State) (v) : (s.setFrames v).intakeSel = s.intakeSel := rfl
@[simp] theorem State.setFrames_clock (s : State) (v) : (s.setFrames v).clock = s.clock := rfl
@[simp] theorem State.setFrames_revocations (s : State) (v) : (s.setFrames v).revocations = s.revocations := rfl
@[simp] theorem State.setFrames_trip (s : State) (v) : (s.setFrames v).trip = s.trip := rfl
@[simp] theorem State.setFrames_keys (s : State) (v) : (s.setFrames v).keys = s.keys := rfl
@[simp] theorem State.setFrames_leases (s : State) (v) : (s.setFrames v).leases = s.leases := rfl
@[simp] theorem State.setFrames_frames (s : State) (v) : (s.setFrames v).frames = v := rfl
@[simp] theorem State.setFrames_engine (s : State) (v) : (s.setFrames v).engine = s.engine := rfl
@[simp] theorem State.setFrames_path (s : State) (v) : (s.setFrames v).path = s.path := rfl
@[simp] theorem State.setFrames_internal (s : State) (v) : (s.setFrames v).internal = s.internal := rfl
@[simp] theorem State.setFrames_intake (s : State) (v) : (s.setFrames v).intake = s.intake := rfl
@[simp] theorem State.setFrames_plan (s : State) (v) : (s.setFrames v).plan = s.plan := rfl
@[simp] theorem State.setFrames_report (s : State) (v) : (s.setFrames v).report = s.report := rfl
@[simp] theorem State.setFrames_draws (s : State) (v) : (s.setFrames v).draws = s.draws := rfl
@[simp] theorem State.setFrames_pending (s : State) (v) : (s.setFrames v).pending = s.pending := rfl

@[simp] theorem State.setEngine_fuses (s : State) (v) : (s.setEngine v).fuses = s.fuses := rfl
@[simp] theorem State.setEngine_power (s : State) (v) : (s.setEngine v).power = s.power := rfl
@[simp] theorem State.setEngine_intakeSel (s : State) (v) : (s.setEngine v).intakeSel = s.intakeSel := rfl
@[simp] theorem State.setEngine_clock (s : State) (v) : (s.setEngine v).clock = s.clock := rfl
@[simp] theorem State.setEngine_revocations (s : State) (v) : (s.setEngine v).revocations = s.revocations := rfl
@[simp] theorem State.setEngine_trip (s : State) (v) : (s.setEngine v).trip = s.trip := rfl
@[simp] theorem State.setEngine_keys (s : State) (v) : (s.setEngine v).keys = s.keys := rfl
@[simp] theorem State.setEngine_leases (s : State) (v) : (s.setEngine v).leases = s.leases := rfl
@[simp] theorem State.setEngine_frames (s : State) (v) : (s.setEngine v).frames = s.frames := rfl
@[simp] theorem State.setEngine_engine (s : State) (v) : (s.setEngine v).engine = v := rfl
@[simp] theorem State.setEngine_path (s : State) (v) : (s.setEngine v).path = s.path := rfl
@[simp] theorem State.setEngine_internal (s : State) (v) : (s.setEngine v).internal = s.internal := rfl
@[simp] theorem State.setEngine_intake (s : State) (v) : (s.setEngine v).intake = s.intake := rfl
@[simp] theorem State.setEngine_plan (s : State) (v) : (s.setEngine v).plan = s.plan := rfl
@[simp] theorem State.setEngine_report (s : State) (v) : (s.setEngine v).report = s.report := rfl
@[simp] theorem State.setEngine_draws (s : State) (v) : (s.setEngine v).draws = s.draws := rfl
@[simp] theorem State.setEngine_pending (s : State) (v) : (s.setEngine v).pending = s.pending := rfl

@[simp] theorem State.setPath_fuses (s : State) (v) : (s.setPath v).fuses = s.fuses := rfl
@[simp] theorem State.setPath_power (s : State) (v) : (s.setPath v).power = s.power := rfl
@[simp] theorem State.setPath_intakeSel (s : State) (v) : (s.setPath v).intakeSel = s.intakeSel := rfl
@[simp] theorem State.setPath_clock (s : State) (v) : (s.setPath v).clock = s.clock := rfl
@[simp] theorem State.setPath_revocations (s : State) (v) : (s.setPath v).revocations = s.revocations := rfl
@[simp] theorem State.setPath_trip (s : State) (v) : (s.setPath v).trip = s.trip := rfl
@[simp] theorem State.setPath_keys (s : State) (v) : (s.setPath v).keys = s.keys := rfl
@[simp] theorem State.setPath_leases (s : State) (v) : (s.setPath v).leases = s.leases := rfl
@[simp] theorem State.setPath_frames (s : State) (v) : (s.setPath v).frames = s.frames := rfl
@[simp] theorem State.setPath_engine (s : State) (v) : (s.setPath v).engine = s.engine := rfl
@[simp] theorem State.setPath_path (s : State) (v) : (s.setPath v).path = v := rfl
@[simp] theorem State.setPath_internal (s : State) (v) : (s.setPath v).internal = s.internal := rfl
@[simp] theorem State.setPath_intake (s : State) (v) : (s.setPath v).intake = s.intake := rfl
@[simp] theorem State.setPath_plan (s : State) (v) : (s.setPath v).plan = s.plan := rfl
@[simp] theorem State.setPath_report (s : State) (v) : (s.setPath v).report = s.report := rfl
@[simp] theorem State.setPath_draws (s : State) (v) : (s.setPath v).draws = s.draws := rfl
@[simp] theorem State.setPath_pending (s : State) (v) : (s.setPath v).pending = s.pending := rfl

@[simp] theorem State.setInternal_fuses (s : State) (v) : (s.setInternal v).fuses = s.fuses := rfl
@[simp] theorem State.setInternal_power (s : State) (v) : (s.setInternal v).power = s.power := rfl
@[simp] theorem State.setInternal_intakeSel (s : State) (v) : (s.setInternal v).intakeSel = s.intakeSel := rfl
@[simp] theorem State.setInternal_clock (s : State) (v) : (s.setInternal v).clock = s.clock := rfl
@[simp] theorem State.setInternal_revocations (s : State) (v) : (s.setInternal v).revocations = s.revocations := rfl
@[simp] theorem State.setInternal_trip (s : State) (v) : (s.setInternal v).trip = s.trip := rfl
@[simp] theorem State.setInternal_keys (s : State) (v) : (s.setInternal v).keys = s.keys := rfl
@[simp] theorem State.setInternal_leases (s : State) (v) : (s.setInternal v).leases = s.leases := rfl
@[simp] theorem State.setInternal_frames (s : State) (v) : (s.setInternal v).frames = s.frames := rfl
@[simp] theorem State.setInternal_engine (s : State) (v) : (s.setInternal v).engine = s.engine := rfl
@[simp] theorem State.setInternal_path (s : State) (v) : (s.setInternal v).path = s.path := rfl
@[simp] theorem State.setInternal_internal (s : State) (v) : (s.setInternal v).internal = v := rfl
@[simp] theorem State.setInternal_intake (s : State) (v) : (s.setInternal v).intake = s.intake := rfl
@[simp] theorem State.setInternal_plan (s : State) (v) : (s.setInternal v).plan = s.plan := rfl
@[simp] theorem State.setInternal_report (s : State) (v) : (s.setInternal v).report = s.report := rfl
@[simp] theorem State.setInternal_draws (s : State) (v) : (s.setInternal v).draws = s.draws := rfl
@[simp] theorem State.setInternal_pending (s : State) (v) : (s.setInternal v).pending = s.pending := rfl

@[simp] theorem State.setIntake_fuses (s : State) (v) : (s.setIntake v).fuses = s.fuses := rfl
@[simp] theorem State.setIntake_power (s : State) (v) : (s.setIntake v).power = s.power := rfl
@[simp] theorem State.setIntake_intakeSel (s : State) (v) : (s.setIntake v).intakeSel = s.intakeSel := rfl
@[simp] theorem State.setIntake_clock (s : State) (v) : (s.setIntake v).clock = s.clock := rfl
@[simp] theorem State.setIntake_revocations (s : State) (v) : (s.setIntake v).revocations = s.revocations := rfl
@[simp] theorem State.setIntake_trip (s : State) (v) : (s.setIntake v).trip = s.trip := rfl
@[simp] theorem State.setIntake_keys (s : State) (v) : (s.setIntake v).keys = s.keys := rfl
@[simp] theorem State.setIntake_leases (s : State) (v) : (s.setIntake v).leases = s.leases := rfl
@[simp] theorem State.setIntake_frames (s : State) (v) : (s.setIntake v).frames = s.frames := rfl
@[simp] theorem State.setIntake_engine (s : State) (v) : (s.setIntake v).engine = s.engine := rfl
@[simp] theorem State.setIntake_path (s : State) (v) : (s.setIntake v).path = s.path := rfl
@[simp] theorem State.setIntake_internal (s : State) (v) : (s.setIntake v).internal = s.internal := rfl
@[simp] theorem State.setIntake_intake (s : State) (v) : (s.setIntake v).intake = v := rfl
@[simp] theorem State.setIntake_plan (s : State) (v) : (s.setIntake v).plan = s.plan := rfl
@[simp] theorem State.setIntake_report (s : State) (v) : (s.setIntake v).report = s.report := rfl
@[simp] theorem State.setIntake_draws (s : State) (v) : (s.setIntake v).draws = s.draws := rfl
@[simp] theorem State.setIntake_pending (s : State) (v) : (s.setIntake v).pending = s.pending := rfl

@[simp] theorem State.setPlan_fuses (s : State) (v) : (s.setPlan v).fuses = s.fuses := rfl
@[simp] theorem State.setPlan_power (s : State) (v) : (s.setPlan v).power = s.power := rfl
@[simp] theorem State.setPlan_intakeSel (s : State) (v) : (s.setPlan v).intakeSel = s.intakeSel := rfl
@[simp] theorem State.setPlan_clock (s : State) (v) : (s.setPlan v).clock = s.clock := rfl
@[simp] theorem State.setPlan_revocations (s : State) (v) : (s.setPlan v).revocations = s.revocations := rfl
@[simp] theorem State.setPlan_trip (s : State) (v) : (s.setPlan v).trip = s.trip := rfl
@[simp] theorem State.setPlan_keys (s : State) (v) : (s.setPlan v).keys = s.keys := rfl
@[simp] theorem State.setPlan_leases (s : State) (v) : (s.setPlan v).leases = s.leases := rfl
@[simp] theorem State.setPlan_frames (s : State) (v) : (s.setPlan v).frames = s.frames := rfl
@[simp] theorem State.setPlan_engine (s : State) (v) : (s.setPlan v).engine = s.engine := rfl
@[simp] theorem State.setPlan_path (s : State) (v) : (s.setPlan v).path = s.path := rfl
@[simp] theorem State.setPlan_internal (s : State) (v) : (s.setPlan v).internal = s.internal := rfl
@[simp] theorem State.setPlan_intake (s : State) (v) : (s.setPlan v).intake = s.intake := rfl
@[simp] theorem State.setPlan_plan (s : State) (v) : (s.setPlan v).plan = v := rfl
@[simp] theorem State.setPlan_report (s : State) (v) : (s.setPlan v).report = s.report := rfl
@[simp] theorem State.setPlan_draws (s : State) (v) : (s.setPlan v).draws = s.draws := rfl
@[simp] theorem State.setPlan_pending (s : State) (v) : (s.setPlan v).pending = s.pending := rfl

@[simp] theorem State.setReport_fuses (s : State) (v) : (s.setReport v).fuses = s.fuses := rfl
@[simp] theorem State.setReport_power (s : State) (v) : (s.setReport v).power = s.power := rfl
@[simp] theorem State.setReport_intakeSel (s : State) (v) : (s.setReport v).intakeSel = s.intakeSel := rfl
@[simp] theorem State.setReport_clock (s : State) (v) : (s.setReport v).clock = s.clock := rfl
@[simp] theorem State.setReport_revocations (s : State) (v) : (s.setReport v).revocations = s.revocations := rfl
@[simp] theorem State.setReport_trip (s : State) (v) : (s.setReport v).trip = s.trip := rfl
@[simp] theorem State.setReport_keys (s : State) (v) : (s.setReport v).keys = s.keys := rfl
@[simp] theorem State.setReport_leases (s : State) (v) : (s.setReport v).leases = s.leases := rfl
@[simp] theorem State.setReport_frames (s : State) (v) : (s.setReport v).frames = s.frames := rfl
@[simp] theorem State.setReport_engine (s : State) (v) : (s.setReport v).engine = s.engine := rfl
@[simp] theorem State.setReport_path (s : State) (v) : (s.setReport v).path = s.path := rfl
@[simp] theorem State.setReport_internal (s : State) (v) : (s.setReport v).internal = s.internal := rfl
@[simp] theorem State.setReport_intake (s : State) (v) : (s.setReport v).intake = s.intake := rfl
@[simp] theorem State.setReport_plan (s : State) (v) : (s.setReport v).plan = s.plan := rfl
@[simp] theorem State.setReport_report (s : State) (v) : (s.setReport v).report = v := rfl
@[simp] theorem State.setReport_draws (s : State) (v) : (s.setReport v).draws = s.draws := rfl
@[simp] theorem State.setReport_pending (s : State) (v) : (s.setReport v).pending = s.pending := rfl

@[simp] theorem State.setDraws_fuses (s : State) (v) : (s.setDraws v).fuses = s.fuses := rfl
@[simp] theorem State.setDraws_power (s : State) (v) : (s.setDraws v).power = s.power := rfl
@[simp] theorem State.setDraws_intakeSel (s : State) (v) : (s.setDraws v).intakeSel = s.intakeSel := rfl
@[simp] theorem State.setDraws_clock (s : State) (v) : (s.setDraws v).clock = s.clock := rfl
@[simp] theorem State.setDraws_revocations (s : State) (v) : (s.setDraws v).revocations = s.revocations := rfl
@[simp] theorem State.setDraws_trip (s : State) (v) : (s.setDraws v).trip = s.trip := rfl
@[simp] theorem State.setDraws_keys (s : State) (v) : (s.setDraws v).keys = s.keys := rfl
@[simp] theorem State.setDraws_leases (s : State) (v) : (s.setDraws v).leases = s.leases := rfl
@[simp] theorem State.setDraws_frames (s : State) (v) : (s.setDraws v).frames = s.frames := rfl
@[simp] theorem State.setDraws_engine (s : State) (v) : (s.setDraws v).engine = s.engine := rfl
@[simp] theorem State.setDraws_path (s : State) (v) : (s.setDraws v).path = s.path := rfl
@[simp] theorem State.setDraws_internal (s : State) (v) : (s.setDraws v).internal = s.internal := rfl
@[simp] theorem State.setDraws_intake (s : State) (v) : (s.setDraws v).intake = s.intake := rfl
@[simp] theorem State.setDraws_plan (s : State) (v) : (s.setDraws v).plan = s.plan := rfl
@[simp] theorem State.setDraws_report (s : State) (v) : (s.setDraws v).report = s.report := rfl
@[simp] theorem State.setDraws_draws (s : State) (v) : (s.setDraws v).draws = v := rfl
@[simp] theorem State.setDraws_pending (s : State) (v) : (s.setDraws v).pending = s.pending := rfl

@[simp] theorem State.setPending_fuses (s : State) (v) : (s.setPending v).fuses = s.fuses := rfl
@[simp] theorem State.setPending_power (s : State) (v) : (s.setPending v).power = s.power := rfl
@[simp] theorem State.setPending_intakeSel (s : State) (v) : (s.setPending v).intakeSel = s.intakeSel := rfl
@[simp] theorem State.setPending_clock (s : State) (v) : (s.setPending v).clock = s.clock := rfl
@[simp] theorem State.setPending_revocations (s : State) (v) : (s.setPending v).revocations = s.revocations := rfl
@[simp] theorem State.setPending_trip (s : State) (v) : (s.setPending v).trip = s.trip := rfl
@[simp] theorem State.setPending_keys (s : State) (v) : (s.setPending v).keys = s.keys := rfl
@[simp] theorem State.setPending_leases (s : State) (v) : (s.setPending v).leases = s.leases := rfl
@[simp] theorem State.setPending_frames (s : State) (v) : (s.setPending v).frames = s.frames := rfl
@[simp] theorem State.setPending_engine (s : State) (v) : (s.setPending v).engine = s.engine := rfl
@[simp] theorem State.setPending_path (s : State) (v) : (s.setPending v).path = s.path := rfl
@[simp] theorem State.setPending_internal (s : State) (v) : (s.setPending v).internal = s.internal := rfl
@[simp] theorem State.setPending_intake (s : State) (v) : (s.setPending v).intake = s.intake := rfl
@[simp] theorem State.setPending_plan (s : State) (v) : (s.setPending v).plan = s.plan := rfl
@[simp] theorem State.setPending_report (s : State) (v) : (s.setPending v).report = s.report := rfl
@[simp] theorem State.setPending_draws (s : State) (v) : (s.setPending v).draws = s.draws := rfl
@[simp] theorem State.setPending_pending (s : State) (v) : (s.setPending v).pending = v := rfl

@[simp] theorem State.setCommits_fuses (s : State) (v) : (s.setCommits v).fuses = s.fuses := rfl
@[simp] theorem State.setCommits_power (s : State) (v) : (s.setCommits v).power = s.power := rfl
@[simp] theorem State.setCommits_intakeSel (s : State) (v) : (s.setCommits v).intakeSel = s.intakeSel := rfl
@[simp] theorem State.setCommits_clock (s : State) (v) : (s.setCommits v).clock = s.clock := rfl
@[simp] theorem State.setCommits_revocations (s : State) (v) : (s.setCommits v).revocations = s.revocations := rfl
@[simp] theorem State.setCommits_trip (s : State) (v) : (s.setCommits v).trip = s.trip := rfl
@[simp] theorem State.setCommits_keys (s : State) (v) : (s.setCommits v).keys = s.keys := rfl
@[simp] theorem State.setCommits_leases (s : State) (v) : (s.setCommits v).leases = s.leases := rfl
@[simp] theorem State.setCommits_frames (s : State) (v) : (s.setCommits v).frames = s.frames := rfl
@[simp] theorem State.setCommits_engine (s : State) (v) : (s.setCommits v).engine = s.engine := rfl
@[simp] theorem State.setCommits_path (s : State) (v) : (s.setCommits v).path = s.path := rfl
@[simp] theorem State.setCommits_internal (s : State) (v) : (s.setCommits v).internal = s.internal := rfl
@[simp] theorem State.setCommits_plan (s : State) (v) : (s.setCommits v).plan = s.plan := rfl
@[simp] theorem State.setCommits_report (s : State) (v) : (s.setCommits v).report = s.report := rfl
@[simp] theorem State.setCommits_draws (s : State) (v) : (s.setCommits v).draws = s.draws := rfl
@[simp] theorem State.setCommits_pending (s : State) (v) : (s.setCommits v).pending = s.pending := rfl
@[simp] theorem State.setCommits_intake_commits (s : State) (v) : (s.setCommits v).intake.commits = v := rfl
@[simp] theorem State.setCommits_intake_queue (s : State) (v) : (s.setCommits v).intake.queue = s.intake.queue := rfl
@[simp] theorem State.setCommits_intake_verifier (s : State) (v) : (s.setCommits v).intake.verifier = s.intake.verifier := rfl

@[simp] theorem State.setQueue_fuses (s : State) (v) : (s.setQueue v).fuses = s.fuses := rfl
@[simp] theorem State.setQueue_power (s : State) (v) : (s.setQueue v).power = s.power := rfl
@[simp] theorem State.setQueue_intakeSel (s : State) (v) : (s.setQueue v).intakeSel = s.intakeSel := rfl
@[simp] theorem State.setQueue_clock (s : State) (v) : (s.setQueue v).clock = s.clock := rfl
@[simp] theorem State.setQueue_revocations (s : State) (v) : (s.setQueue v).revocations = s.revocations := rfl
@[simp] theorem State.setQueue_trip (s : State) (v) : (s.setQueue v).trip = s.trip := rfl
@[simp] theorem State.setQueue_keys (s : State) (v) : (s.setQueue v).keys = s.keys := rfl
@[simp] theorem State.setQueue_leases (s : State) (v) : (s.setQueue v).leases = s.leases := rfl
@[simp] theorem State.setQueue_frames (s : State) (v) : (s.setQueue v).frames = s.frames := rfl
@[simp] theorem State.setQueue_engine (s : State) (v) : (s.setQueue v).engine = s.engine := rfl
@[simp] theorem State.setQueue_path (s : State) (v) : (s.setQueue v).path = s.path := rfl
@[simp] theorem State.setQueue_internal (s : State) (v) : (s.setQueue v).internal = s.internal := rfl
@[simp] theorem State.setQueue_plan (s : State) (v) : (s.setQueue v).plan = s.plan := rfl
@[simp] theorem State.setQueue_report (s : State) (v) : (s.setQueue v).report = s.report := rfl
@[simp] theorem State.setQueue_draws (s : State) (v) : (s.setQueue v).draws = s.draws := rfl
@[simp] theorem State.setQueue_pending (s : State) (v) : (s.setQueue v).pending = s.pending := rfl
@[simp] theorem State.setQueue_intake_commits (s : State) (v) : (s.setQueue v).intake.commits = s.intake.commits := rfl
@[simp] theorem State.setQueue_intake_queue (s : State) (v) : (s.setQueue v).intake.queue = v := rfl
@[simp] theorem State.setQueue_intake_verifier (s : State) (v) : (s.setQueue v).intake.verifier = s.intake.verifier := rfl

@[simp] theorem State.setVerifier_fuses (s : State) (v) : (s.setVerifier v).fuses = s.fuses := rfl
@[simp] theorem State.setVerifier_power (s : State) (v) : (s.setVerifier v).power = s.power := rfl
@[simp] theorem State.setVerifier_intakeSel (s : State) (v) : (s.setVerifier v).intakeSel = s.intakeSel := rfl
@[simp] theorem State.setVerifier_clock (s : State) (v) : (s.setVerifier v).clock = s.clock := rfl
@[simp] theorem State.setVerifier_revocations (s : State) (v) : (s.setVerifier v).revocations = s.revocations := rfl
@[simp] theorem State.setVerifier_trip (s : State) (v) : (s.setVerifier v).trip = s.trip := rfl
@[simp] theorem State.setVerifier_keys (s : State) (v) : (s.setVerifier v).keys = s.keys := rfl
@[simp] theorem State.setVerifier_leases (s : State) (v) : (s.setVerifier v).leases = s.leases := rfl
@[simp] theorem State.setVerifier_frames (s : State) (v) : (s.setVerifier v).frames = s.frames := rfl
@[simp] theorem State.setVerifier_engine (s : State) (v) : (s.setVerifier v).engine = s.engine := rfl
@[simp] theorem State.setVerifier_path (s : State) (v) : (s.setVerifier v).path = s.path := rfl
@[simp] theorem State.setVerifier_internal (s : State) (v) : (s.setVerifier v).internal = s.internal := rfl
@[simp] theorem State.setVerifier_plan (s : State) (v) : (s.setVerifier v).plan = s.plan := rfl
@[simp] theorem State.setVerifier_report (s : State) (v) : (s.setVerifier v).report = s.report := rfl
@[simp] theorem State.setVerifier_draws (s : State) (v) : (s.setVerifier v).draws = s.draws := rfl
@[simp] theorem State.setVerifier_pending (s : State) (v) : (s.setVerifier v).pending = s.pending := rfl
@[simp] theorem State.setVerifier_intake_commits (s : State) (v) : (s.setVerifier v).intake.commits = s.intake.commits := rfl
@[simp] theorem State.setVerifier_intake_queue (s : State) (v) : (s.setVerifier v).intake.queue = s.intake.queue := rfl
@[simp] theorem State.setVerifier_intake_verifier (s : State) (v) : (s.setVerifier v).intake.verifier = v := rfl

@[simp] theorem State.setEntries_fuses (s : State) (v) : (s.setEntries v).fuses = s.fuses := rfl
@[simp] theorem State.setEntries_power (s : State) (v) : (s.setEntries v).power = s.power := rfl
@[simp] theorem State.setEntries_intakeSel (s : State) (v) : (s.setEntries v).intakeSel = s.intakeSel := rfl
@[simp] theorem State.setEntries_clock (s : State) (v) : (s.setEntries v).clock = s.clock := rfl
@[simp] theorem State.setEntries_revocations (s : State) (v) : (s.setEntries v).revocations = s.revocations := rfl
@[simp] theorem State.setEntries_trip (s : State) (v) : (s.setEntries v).trip = s.trip := rfl
@[simp] theorem State.setEntries_keys (s : State) (v) : (s.setEntries v).keys = s.keys := rfl
@[simp] theorem State.setEntries_leases (s : State) (v) : (s.setEntries v).leases = s.leases := rfl
@[simp] theorem State.setEntries_frames (s : State) (v) : (s.setEntries v).frames = s.frames := rfl
@[simp] theorem State.setEntries_engine (s : State) (v) : (s.setEntries v).engine = s.engine := rfl
@[simp] theorem State.setEntries_internal (s : State) (v) : (s.setEntries v).internal = s.internal := rfl
@[simp] theorem State.setEntries_intake (s : State) (v) : (s.setEntries v).intake = s.intake := rfl
@[simp] theorem State.setEntries_plan (s : State) (v) : (s.setEntries v).plan = s.plan := rfl
@[simp] theorem State.setEntries_report (s : State) (v) : (s.setEntries v).report = s.report := rfl
@[simp] theorem State.setEntries_draws (s : State) (v) : (s.setEntries v).draws = s.draws := rfl
@[simp] theorem State.setEntries_pending (s : State) (v) : (s.setEntries v).pending = s.pending := rfl
@[simp] theorem State.setEntries_path_entries (s : State) (v) : (s.setEntries v).path.entries = v := rfl
@[simp] theorem State.setEntries_path_heads (s : State) (v) : (s.setEntries v).path.heads = s.path.heads := rfl
@[simp] theorem State.setEntries_path_behind (s : State) (v) : (s.setEntries v).path.behind = s.path.behind := rfl
@[simp] theorem State.setEntries_path_nextTag (s : State) (v) : (s.setEntries v).path.nextTag = s.path.nextTag := rfl
@[simp] theorem State.setEntries_path_epoch (s : State) (v) : (s.setEntries v).path.epoch = s.path.epoch := rfl
@[simp] theorem State.setEntries_path_issued (s : State) (v) : (s.setEntries v).path.issued = s.path.issued := rfl
@[simp] theorem State.setEntries_path_returned (s : State) (v) : (s.setEntries v).path.returned = s.path.returned := rfl

@[simp] theorem State.setKey_fuses (s : State) (i : Nat) (k) : (s.setKey i k).fuses = s.fuses := rfl
@[simp] theorem State.setKey_power (s : State) (i : Nat) (k) : (s.setKey i k).power = s.power := rfl
@[simp] theorem State.setKey_intakeSel (s : State) (i : Nat) (k) : (s.setKey i k).intakeSel = s.intakeSel := rfl
@[simp] theorem State.setKey_clock (s : State) (i : Nat) (k) : (s.setKey i k).clock = s.clock := rfl
@[simp] theorem State.setKey_revocations (s : State) (i : Nat) (k) : (s.setKey i k).revocations = s.revocations := rfl
@[simp] theorem State.setKey_trip (s : State) (i : Nat) (k) : (s.setKey i k).trip = s.trip := rfl
@[simp] theorem State.setKey_leases (s : State) (i : Nat) (k) : (s.setKey i k).leases = s.leases := rfl
@[simp] theorem State.setKey_frames (s : State) (i : Nat) (k) : (s.setKey i k).frames = s.frames := rfl
@[simp] theorem State.setKey_engine (s : State) (i : Nat) (k) : (s.setKey i k).engine = s.engine := rfl
@[simp] theorem State.setKey_path (s : State) (i : Nat) (k) : (s.setKey i k).path = s.path := rfl
@[simp] theorem State.setKey_internal (s : State) (i : Nat) (k) : (s.setKey i k).internal = s.internal := rfl
@[simp] theorem State.setKey_intake (s : State) (i : Nat) (k) : (s.setKey i k).intake = s.intake := rfl
@[simp] theorem State.setKey_plan (s : State) (i : Nat) (k) : (s.setKey i k).plan = s.plan := rfl
@[simp] theorem State.setKey_report (s : State) (i : Nat) (k) : (s.setKey i k).report = s.report := rfl
@[simp] theorem State.setKey_draws (s : State) (i : Nat) (k) : (s.setKey i k).draws = s.draws := rfl
@[simp] theorem State.setKey_pending (s : State) (i : Nat) (k) : (s.setKey i k).pending = s.pending := rfl

@[simp] theorem State.setLease_fuses (s : State) (i : Nat) (l) : (s.setLease i l).fuses = s.fuses := rfl
@[simp] theorem State.setLease_power (s : State) (i : Nat) (l) : (s.setLease i l).power = s.power := rfl
@[simp] theorem State.setLease_intakeSel (s : State) (i : Nat) (l) : (s.setLease i l).intakeSel = s.intakeSel := rfl
@[simp] theorem State.setLease_clock (s : State) (i : Nat) (l) : (s.setLease i l).clock = s.clock := rfl
@[simp] theorem State.setLease_revocations (s : State) (i : Nat) (l) : (s.setLease i l).revocations = s.revocations := rfl
@[simp] theorem State.setLease_trip (s : State) (i : Nat) (l) : (s.setLease i l).trip = s.trip := rfl
@[simp] theorem State.setLease_keys (s : State) (i : Nat) (l) : (s.setLease i l).keys = s.keys := rfl
@[simp] theorem State.setLease_frames (s : State) (i : Nat) (l) : (s.setLease i l).frames = s.frames := rfl
@[simp] theorem State.setLease_engine (s : State) (i : Nat) (l) : (s.setLease i l).engine = s.engine := rfl
@[simp] theorem State.setLease_path (s : State) (i : Nat) (l) : (s.setLease i l).path = s.path := rfl
@[simp] theorem State.setLease_internal (s : State) (i : Nat) (l) : (s.setLease i l).internal = s.internal := rfl
@[simp] theorem State.setLease_intake (s : State) (i : Nat) (l) : (s.setLease i l).intake = s.intake := rfl
@[simp] theorem State.setLease_plan (s : State) (i : Nat) (l) : (s.setLease i l).plan = s.plan := rfl
@[simp] theorem State.setLease_report (s : State) (i : Nat) (l) : (s.setLease i l).report = s.report := rfl
@[simp] theorem State.setLease_draws (s : State) (i : Nat) (l) : (s.setLease i l).draws = s.draws := rfl
@[simp] theorem State.setLease_pending (s : State) (i : Nat) (l) : (s.setLease i l).pending = s.pending := rfl

@[simp] theorem State.setFrame_fuses (s : State) (i j : Nat) (f) : (s.setFrame i j f).fuses = s.fuses := rfl
@[simp] theorem State.setFrame_power (s : State) (i j : Nat) (f) : (s.setFrame i j f).power = s.power := rfl
@[simp] theorem State.setFrame_intakeSel (s : State) (i j : Nat) (f) : (s.setFrame i j f).intakeSel = s.intakeSel := rfl
@[simp] theorem State.setFrame_clock (s : State) (i j : Nat) (f) : (s.setFrame i j f).clock = s.clock := rfl
@[simp] theorem State.setFrame_revocations (s : State) (i j : Nat) (f) : (s.setFrame i j f).revocations = s.revocations := rfl
@[simp] theorem State.setFrame_trip (s : State) (i j : Nat) (f) : (s.setFrame i j f).trip = s.trip := rfl
@[simp] theorem State.setFrame_keys (s : State) (i j : Nat) (f) : (s.setFrame i j f).keys = s.keys := rfl
@[simp] theorem State.setFrame_leases (s : State) (i j : Nat) (f) : (s.setFrame i j f).leases = s.leases := rfl
@[simp] theorem State.setFrame_engine (s : State) (i j : Nat) (f) : (s.setFrame i j f).engine = s.engine := rfl
@[simp] theorem State.setFrame_path (s : State) (i j : Nat) (f) : (s.setFrame i j f).path = s.path := rfl
@[simp] theorem State.setFrame_internal (s : State) (i j : Nat) (f) : (s.setFrame i j f).internal = s.internal := rfl
@[simp] theorem State.setFrame_intake (s : State) (i j : Nat) (f) : (s.setFrame i j f).intake = s.intake := rfl
@[simp] theorem State.setFrame_plan (s : State) (i j : Nat) (f) : (s.setFrame i j f).plan = s.plan := rfl
@[simp] theorem State.setFrame_report (s : State) (i j : Nat) (f) : (s.setFrame i j f).report = s.report := rfl
@[simp] theorem State.setFrame_draws (s : State) (i j : Nat) (f) : (s.setFrame i j f).draws = s.draws := rfl
@[simp] theorem State.setFrame_pending (s : State) (i j : Nat) (f) : (s.setFrame i j f).pending = s.pending := rfl

@[simp] theorem State.handOver_fuses (s : State) (r : Record) : (s.handOver r).fuses = s.fuses := rfl
@[simp] theorem State.handOver_power (s : State) (r : Record) : (s.handOver r).power = s.power := rfl
@[simp] theorem State.handOver_intakeSel (s : State) (r : Record) : (s.handOver r).intakeSel = s.intakeSel := rfl
@[simp] theorem State.handOver_clock (s : State) (r : Record) : (s.handOver r).clock = s.clock := rfl
@[simp] theorem State.handOver_revocations (s : State) (r : Record) : (s.handOver r).revocations = s.revocations := rfl
@[simp] theorem State.handOver_trip (s : State) (r : Record) : (s.handOver r).trip = s.trip := rfl
@[simp] theorem State.handOver_keys (s : State) (r : Record) : (s.handOver r).keys = s.keys := rfl
@[simp] theorem State.handOver_leases (s : State) (r : Record) : (s.handOver r).leases = s.leases := rfl
@[simp] theorem State.handOver_frames (s : State) (r : Record) : (s.handOver r).frames = s.frames := rfl
@[simp] theorem State.handOver_engine (s : State) (r : Record) : (s.handOver r).engine = s.engine := rfl
@[simp] theorem State.handOver_path (s : State) (r : Record) : (s.handOver r).path = s.path := rfl
@[simp] theorem State.handOver_internal (s : State) (r : Record) : (s.handOver r).internal = s.internal := rfl
@[simp] theorem State.handOver_intake (s : State) (r : Record) : (s.handOver r).intake = s.intake := rfl
@[simp] theorem State.handOver_plan (s : State) (r : Record) : (s.handOver r).plan = s.plan := rfl
@[simp] theorem State.handOver_draws (s : State) (r : Record) : (s.handOver r).draws = s.draws := rfl
@[simp] theorem State.handOver_pending (s : State) (r : Record) : (s.handOver r).pending = s.pending := rfl

@[simp] theorem State.statusEvent_fuses (s : State) : (s.statusEvent).fuses = s.fuses := rfl
@[simp] theorem State.statusEvent_power (s : State) : (s.statusEvent).power = s.power := rfl
@[simp] theorem State.statusEvent_intakeSel (s : State) : (s.statusEvent).intakeSel = s.intakeSel := rfl
@[simp] theorem State.statusEvent_clock (s : State) : (s.statusEvent).clock = s.clock := rfl
@[simp] theorem State.statusEvent_revocations (s : State) : (s.statusEvent).revocations = s.revocations := rfl
@[simp] theorem State.statusEvent_trip (s : State) : (s.statusEvent).trip = s.trip := rfl
@[simp] theorem State.statusEvent_keys (s : State) : (s.statusEvent).keys = s.keys := rfl
@[simp] theorem State.statusEvent_leases (s : State) : (s.statusEvent).leases = s.leases := rfl
@[simp] theorem State.statusEvent_frames (s : State) : (s.statusEvent).frames = s.frames := rfl
@[simp] theorem State.statusEvent_engine (s : State) : (s.statusEvent).engine = s.engine := rfl
@[simp] theorem State.statusEvent_path (s : State) : (s.statusEvent).path = s.path := rfl
@[simp] theorem State.statusEvent_internal (s : State) : (s.statusEvent).internal = s.internal := rfl
@[simp] theorem State.statusEvent_intake (s : State) : (s.statusEvent).intake = s.intake := rfl
@[simp] theorem State.statusEvent_plan (s : State) : (s.statusEvent).plan = s.plan := rfl
@[simp] theorem State.statusEvent_draws (s : State) : (s.statusEvent).draws = s.draws := rfl
@[simp] theorem State.statusEvent_pending (s : State) : (s.statusEvent).pending = s.pending := rfl

@[simp] theorem State.bumpGeneration_fuses (s : State) : (s.bumpGeneration).fuses = s.fuses := rfl
@[simp] theorem State.bumpGeneration_power (s : State) : (s.bumpGeneration).power = s.power := rfl
@[simp] theorem State.bumpGeneration_intakeSel (s : State) : (s.bumpGeneration).intakeSel = s.intakeSel := rfl
@[simp] theorem State.bumpGeneration_clock (s : State) : (s.bumpGeneration).clock = s.clock := rfl
@[simp] theorem State.bumpGeneration_revocations (s : State) : (s.bumpGeneration).revocations = s.revocations := rfl
@[simp] theorem State.bumpGeneration_trip (s : State) : (s.bumpGeneration).trip = s.trip := rfl
@[simp] theorem State.bumpGeneration_leases (s : State) : (s.bumpGeneration).leases = s.leases := rfl
@[simp] theorem State.bumpGeneration_frames (s : State) : (s.bumpGeneration).frames = s.frames := rfl
@[simp] theorem State.bumpGeneration_engine (s : State) : (s.bumpGeneration).engine = s.engine := rfl
@[simp] theorem State.bumpGeneration_path (s : State) : (s.bumpGeneration).path = s.path := rfl
@[simp] theorem State.bumpGeneration_internal (s : State) : (s.bumpGeneration).internal = s.internal := rfl
@[simp] theorem State.bumpGeneration_intake (s : State) : (s.bumpGeneration).intake = s.intake := rfl
@[simp] theorem State.bumpGeneration_plan (s : State) : (s.bumpGeneration).plan = s.plan := rfl
@[simp] theorem State.bumpGeneration_report (s : State) : (s.bumpGeneration).report = s.report := rfl
@[simp] theorem State.bumpGeneration_draws (s : State) : (s.bumpGeneration).draws = s.draws := rfl
@[simp] theorem State.bumpGeneration_pending (s : State) : (s.bumpGeneration).pending = s.pending := rfl

end Sys2Proof.Machine
end

