-- ==== Sys2Proof/Laws/Touches.lean ====
section
/-! SUPPORT. For each shared operation one lemma that says which blocks of the state it can change: the frame of
everything else. -/

namespace Sys2Proof.Machine

/-! ## How the lemmas compose -/

/-- Every block of one list is in another, as a check that computes. -/
abbrev Within (bs cs : List Block) : Prop := bs.all (fun b => cs.contains b) = true

theorem within_mem {bs cs : List Block} (h : Within bs cs) {b : Block} (hb : b ∈ bs) : b ∈ cs := by
  have := List.all_eq_true.mp h b hb
  simpa using this

theorem touches_refl (bs : List Block) (s : State) : Touches bs s s := by
  intro b _
  cases b <;> rfl

theorem touches_trans {bs : List Block} {s t u : State} (h1 : Touches bs s t) (h2 : Touches bs t u) :
    Touches bs s u := by
  intro b hb
  have a1 := h1 b hb
  have a2 := h2 b hb
  cases b <;> exact a2.trans a1

theorem touches_of {bs cs : List Block} {s t : State} (h : Touches cs s t) (w : Within cs bs) : Touches bs s t :=
  fun b hb => h b (fun hc => hb (within_mem w hc))

theorem touches_then {bs cs : List Block} {s t u : State} (h1 : Touches bs s t) (h2 : Touches cs t u)
    (w : Within cs bs) : Touches bs s u :=
  touches_trans h1 (touches_of h2 w)

theorem touches_foldl {α : Type} {bs : List Block} {f : State → α → State} (h : ∀ s a, Touches bs s (f s a)) :
    ∀ (l : List α) (s : State), Touches bs s (l.foldl f s) := by
  intro l
  induction l with
  | nil => exact fun s => touches_refl bs s
  | cons a rest ih => exact fun s => touches_trans (h s a) (ih (f s a))

theorem touches_forStreams {bs : List Block} {f : Nat → State → State} (h : ∀ i s, Touches bs s (f i s)) (s : State) :
    Touches bs s (s.forStreams f) :=
  touches_foldl (fun s i => h i s) _ s

/-! ## One block -/

theorem setPower_touches (s : State) (v) : Touches [.power] s (s.setPower v) := by
  intro b hb; cases b <;> first | rfl | simp at hb
theorem setIntakeSel_touches (s : State) (v) : Touches [.intakeSel] s (s.setIntakeSel v) := by
  intro b hb; cases b <;> first | rfl | simp at hb
theorem setClock_touches (s : State) (v) : Touches [.clock] s (s.setClock v) := by
  intro b hb; cases b <;> first | rfl | simp at hb
theorem setRevocations_touches (s : State) (v) : Touches [.revocations] s (s.setRevocations v) := by
  intro b hb; cases b <;> first | rfl | simp at hb
theorem setTrip_touches (s : State) (v) : Touches [.trip] s (s.setTrip v) := by
  intro b hb; cases b <;> first | rfl | simp at hb
theorem setLatch_touches (s : State) (v) : Touches [.trip] s (s.setLatch v) := setTrip_touches s _
theorem setKeys_touches (s : State) (v) : Touches [.keys] s (s.setKeys v) := by
  intro b hb; cases b <;> first | rfl | simp at hb
theorem setKey_touches (s : State) (i : Nat) (v) : Touches [.keys] s (s.setKey i v) := setKeys_touches s _
theorem setLeases_touches (s : State) (v) : Touches [.leases] s (s.setLeases v) := by
  intro b hb; cases b <;> first | rfl | simp at hb
theorem setLease_touches (s : State) (i : Nat) (v) : Touches [.leases] s (s.setLease i v) := setLeases_touches s _
theorem setFrames_touches (s : State) (v) : Touches [.frames] s (s.setFrames v) := by
  intro b hb; cases b <;> first | rfl | simp at hb
theorem setFrame_touches (s : State) (i j : Nat) (v) : Touches [.frames] s (s.setFrame i j v) :=
  setFrames_touches s _
theorem setEngine_touches (s : State) (v) : Touches [.engine] s (s.setEngine v) := by
  intro b hb; cases b <;> first | rfl | simp at hb
theorem setPath_touches (s : State) (v) : Touches [.entries, .heads, .port, .counters] s (s.setPath v) := by
  intro b hb; cases b <;> first | rfl | simp at hb
theorem setEntries_touches (s : State) (v) : Touches [.entries] s (s.setEntries v) := by
  intro b hb; cases b <;> first | rfl | simp at hb
theorem setInternal_touches (s : State) (v) : Touches [.waiting, .atMemory] s (s.setInternal v) := by
  intro b hb; cases b <;> first | rfl | simp at hb
theorem setIntake_touches (s : State) (v) : Touches [.intake] s (s.setIntake v) := by
  intro b hb; cases b <;> first | rfl | simp at hb
theorem setCommits_touches (s : State) (v) : Touches [.intake] s (s.setCommits v) := setIntake_touches s _
theorem setQueue_touches (s : State) (v) : Touches [.intake] s (s.setQueue v) := setIntake_touches s _
theorem setVerifier_touches (s : State) (v) : Touches [.intake] s (s.setVerifier v) := setIntake_touches s _
theorem setPlan_touches (s : State) (v) : Touches [.plan] s (s.setPlan v) := by
  intro b hb; cases b <;> first | rfl | simp at hb
theorem setReport_touches (s : State) (v) : Touches [.report, .status, .indices] s (s.setReport v) := by
  intro b hb; cases b <;> first | rfl | simp at hb
theorem setDraws_touches (s : State) (v) : Touches [.draws] s (s.setDraws v) := by
  intro b hb; cases b <;> first | rfl | simp at hb
theorem handOver_touches (s : State) (r : Record) : Touches [.report] s (s.handOver r) := by
  unfold State.handOver Report.stage
  split <;> (intro b hb; cases b <;> first | rfl | simp at hb)
theorem statusEvent_touches (s : State) : Touches [.status] s s.statusEvent := by
  intro b hb; cases b <;> first | rfl | simp at hb
theorem bumpGeneration_touches (s : State) : Touches [.keys] s s.bumpGeneration := setKeys_touches s _

/-! ## Internal requests -/

theorem handInternal_touches (s : State) (k : InternalKind) : Touches [.counters, .waiting] s (s.handInternal k) := by
  intro b hb; cases b <;> first | rfl | simp at hb

theorem presentReport_touches (s : State) : Touches [.counters, .waiting] s s.presentReport := by
  unfold State.presentReport
  split
  · split
    · exact handInternal_touches s _
    · exact touches_refl _ s
  · exact touches_refl _ s

theorem mainAct_touches {bs : List Block} {s : State} {act : State → State} (h : Touches bs s (act s))
    (w : Within [.counters, .waiting] bs) : Touches bs s (s.mainAct act) := by
  unfold State.mainAct
  split
  · exact touches_then h (presentReport_touches _) w
  · exact touches_refl _ s

theorem standbyAct_touches {bs : List Block} {s : State} {act : State → State} (h : Touches bs s (act s))
    (w : Within [.counters, .waiting] bs) : Touches bs s (s.standbyAct act) :=
  touches_then h (presentReport_touches _) w

/-! ## The key table, the revocation list and the leases -/

theorem settle_touches (s : State) (id : KeyId) : Touches [.revocations] s (s.settle id) := setRevocations_touches s _

theorem revocationsAnnounced_touches (s : State) : Touches [.revocations] s s.revocationsAnnounced :=
  setRevocations_touches s _

theorem emptySlot_touches (s : State) (i : Nat) : Touches [.keys, .revocations] s (s.emptySlot i) := by
  unfold State.emptySlot
  split
  · exact touches_refl _ s
  · split
    · exact touches_then (touches_of (setKey_touches s _ _) rfl) (settle_touches _ _) rfl
    · exact touches_of (setKey_touches s _ _) rfl

theorem editKey_touches (s : State) (i : Nat) (f : Key → Key) : Touches [.keys] s (s.editKey i f) := by
  unfold State.editKey
  split
  · exact touches_refl _ s
  · exact setKey_touches s _ _

theorem handBack_touches (s : State) (id : KeyId) : Touches [.keys, .revocations, .report] s (s.handBack id) := by
  unfold State.handBack
  split
  · exact touches_refl _ s
  · split
    · exact touches_then (touches_of (handOver_touches s _) rfl) (emptySlot_touches _ _) rfl
    · exact touches_refl _ s

theorem endLease_touches (s : State) (i : Nat) (c : EndCause) :
    Touches [.leases, .keys, .revocations, .report] s (s.endLease i c) := by
  unfold State.endLease
  split
  · dsimp only
    have h : ∀ r : Record, Touches [.leases, .keys, .revocations, .report] s ((s.handOver r).setLease i .idle) :=
      fun _ => touches_then (touches_of (handOver_touches s _) rfl) (setLease_touches _ _ _) rfl
    split
    · exact h _
    · exact touches_trans (h _) (touches_foldl (fun s id => touches_of (handBack_touches s id) rfl) _ _)
  · exact touches_refl _ s
  · exact touches_refl _ s

theorem dropRefused_touches (s : State) (i : Nat) : Touches [.leases] s (s.dropRefused i) := by
  unfold State.dropRefused
  split
  · exact setLease_touches s _ _
  · exact touches_refl _ s
  · exact touches_refl _ s

theorem closeOne_touches (id : KeyId) (i : Nat) (s : State) :
    Touches [.leases, .report] s (State.closeOne id i s) := by
  unfold State.closeOne
  split
  · split
    · exact touches_then (touches_of (setLease_touches s _ _) rfl) (handOver_touches _ _) rfl
    · exact touches_refl _ s
  all_goals exact touches_refl _ s

theorem closingNotice_touches (s : State) (id : KeyId) : Touches [.leases, .report] s (s.closingNotice id) :=
  touches_forStreams (closeOne_touches id) s

theorem expireOne_touches (i : Nat) (s : State) :
    Touches [.leases, .keys, .revocations, .report] s (State.expireOne i s) := by
  unfold State.expireOne
  split
  · split
    · exact endLease_touches s _ _
    · exact touches_refl _ s
  all_goals exact touches_refl _ s

theorem leasesAnnounced_touches (s : State) : Touches [.leases, .keys, .revocations, .report] s s.leasesAnnounced :=
  touches_forStreams expireOne_touches s

theorem holdLease_touches (s : State) (i : Nat) (saved : SavedState) (sh : Show) :
    Touches [.leases, .report] s (s.holdLease i saved sh) :=
  touches_then (touches_of (setLease_touches s _ _) rfl) (handOver_touches _ _) rfl

theorem holdOne_touches (i : Nat) (s : State) : Touches [.leases, .report] s (State.holdOne i s) := by
  unfold State.holdOne
  split
  · exact holdLease_touches s _ _ _
  · exact holdLease_touches s _ _ _
  all_goals exact touches_refl _ s

theorem holdNotice_touches (s : State) : Touches [.leases, .report] s s.holdNotice :=
  touches_forStreams holdOne_touches s

theorem resumeOne_touches (i : Nat) (s : State) :
    Touches [.leases, .keys, .revocations, .report] s (State.resumeOne i s) := by
  unfold State.resumeOne
  split
  · dsimp only
    have h : ∀ st (sh : Show) (r : Record), Touches [.leases, .keys, .revocations, .report] s
        ((s.setLease i (.serving st sh)).handOver r) :=
      fun _ _ _ => touches_then (touches_of (setLease_touches s _ _) rfl) (handOver_touches _ _) rfl
    split
    · exact touches_then (h _ _ _) (endLease_touches _ _ _) rfl
    · split
      · split
        · exact touches_then (touches_then (h _ _ _) (setLease_touches _ _ _) rfl) (handOver_touches _ _) rfl
        · exact h _ _ _
      · exact h _ _ _
  · split
    · exact touches_of (setLease_touches s _ _) rfl
    · exact touches_refl _ s
  all_goals exact touches_refl _ s

theorem resumeNotice_touches (s : State) : Touches [.leases, .keys, .revocations, .report] s s.resumeNotice :=
  touches_forStreams resumeOne_touches s

theorem revokeOne_touches (id : KeyId) (i : Nat) (s : State) :
    Touches [.leases, .keys, .revocations, .report] s (State.revokeOne id i s) := by
  unfold State.revokeOne
  split
  · exact endLease_touches s _ _
  · exact touches_refl _ s

theorem revocationNotice_touches (s : State) (id : KeyId) :
    Touches [.leases, .keys, .revocations, .report] s (s.revocationNotice id) :=
  touches_forStreams (revokeOne_touches id) s

theorem retireNotice_touches (s : State) (i : Nat) :
    Touches [.leases, .keys, .revocations, .report] s (s.retireNotice i) :=
  touches_then (endLease_touches s _ _) (dropRefused_touches _ _) rfl

theorem changeNotice_touches (s : State) (i : Nat) : Touches [.leases] s (s.changeNotice i) :=
  dropRefused_touches s i

theorem tripLeases_touches (s : State) : Touches [.leases, .keys, .revocations, .report] s s.tripLeases :=
  touches_forStreams (fun i s => touches_then (endLease_touches s i _) (dropRefused_touches _ _) rfl) s

theorem takeBoundary_touches (s : State) (b : Boundary) :
    Touches [.leases, .keys, .revocations, .report] s (s.takeBoundary b) := by
  unfold State.takeBoundary State.reachNotBefore State.reachNotAfter State.reachFreeing
  split
  · exact touches_refl _ s
  · split
    · split
      · exact touches_then (touches_then (touches_of (setKey_touches s _ _) rfl) (bumpGeneration_touches _) rfl)
          (handOver_touches _ _) rfl
      · exact touches_refl _ s
    · split
      · exact touches_then (touches_then (touches_of (setKey_touches s _ _) rfl) (handOver_touches _ _) rfl)
          (closingNotice_touches _ _) rfl
      · split
        · exact touches_then (touches_of (setKey_touches s _ _) rfl) (closingNotice_touches _ _) rfl
        · exact touches_refl _ s
    · split
      · exact touches_then (touches_of (handOver_touches s _) rfl) (emptySlot_touches _ _) rfl
      · exact touches_refl _ s

theorem keysAnnounced_touches (s : State) : Touches [.leases, .keys, .revocations, .report] s s.keysAnnounced :=
  touches_foldl takeBoundary_touches _ s

theorem dailyReload_touches (s : State) : Touches [.keys] s s.dailyReload := by
  unfold State.dailyReload
  dsimp only
  split
  · exact touches_then (setKeys_touches s _) (bumpGeneration_touches _) rfl
  · exact setKeys_touches s _

theorem eraseKeys_touches (s : State) : Touches [.keys, .revocations] s s.eraseKeys :=
  touches_foldl emptySlot_touches _ s

/-! ## The frame monitor -/

theorem breakSlot_touches (s : State) (i j : Nat) (c : BrokenCause) (w : SourceId) (d : Nat) :
    Touches [.frames, .report] s (s.breakSlot i j c w d) :=
  touches_then (touches_of (setFrame_touches s _ _ _) rfl) (handOver_touches _ _) rfl

theorem slotBeat_touches (i j : Nat) (w : SourceId) (acc : State × Bool) (b : Nat × WriteBeat) :
    Touches [.frames, .report] acc.1 (State.slotBeat i j w acc b).1 := by
  unfold State.slotBeat
  dsimp only
  split
  · exact touches_refl _ _
  · exact touches_of (setFrame_touches _ _ _ _) rfl
  · exact breakSlot_touches _ _ _ _ _ _
  · split
    · exact touches_of (setFrame_touches _ _ _ _) rfl
    · exact breakSlot_touches _ _ _ _ _ _

theorem slotBeats_touches (i j : Nat) (w : SourceId) (l : List (Nat × WriteBeat)) :
    ∀ acc : State × Bool, Touches [.frames, .report] acc.1 (l.foldl (State.slotBeat i j w) acc).1 := by
  induction l with
  | nil => exact fun acc => touches_refl _ _
  | cons b rest ih => exact fun acc => touches_trans (slotBeat_touches i j w acc b) (ih _)

theorem slotBurst_touches (s : State) (p : RingPlace) (w : SourceId) (beats : List WriteBeat) :
    Touches [.frames, .report] s (s.slotBurst p w beats).1 := by
  unfold State.slotBurst
  dsimp only
  split
  all_goals exact slotBeats_touches _ _ _ _ (s, false)

theorem spanSlot_touches (w : SourceId) (s : State) (p : RingPlace) :
    Touches [.frames, .report] s (State.spanSlot w s p) := by
  unfold State.spanSlot
  split
  · exact touches_refl _ s
  all_goals exact breakSlot_touches _ _ _ _ _ _

theorem showFrames_touches (s : State) (w : WriteRequest) : Touches [.frames, .report] s (s.showFrames w).1 := by
  unfold State.showFrames
  split
  · exact touches_refl _ s
  · exact slotBurst_touches _ _ _ _
  · exact touches_foldl (spanSlot_touches _) _ s

theorem frameOkay_touches (s : State) (k : Kept) (b : Bool) : Touches [.frames] s (s.frameOkay k b) := by
  unfold State.frameOkay
  dsimp only
  split
  · split
    · exact setFrame_touches s _ _ _
    · exact touches_refl _ s
  all_goals exact touches_refl _ s

theorem frameError_touches (s : State) (k : Kept) (w : SourceId) :
    Touches [.frames, .report] s (s.frameError k w) := by
  unfold State.frameError
  dsimp only
  split
  · split
    · exact breakSlot_touches _ _ _ _ _ _
    · exact touches_refl _ s
  · exact touches_refl _ s

theorem resetNotice_touches (s : State) (i : Nat) : Touches [.frames] s (s.resetNotice i) := setFrames_touches s _

/-! ## The intake unit -/

theorem refuseParcel_touches (s : State) (c : RefusalCause) (f : Captured) (cell : Nat) (i : BitVec 16) :
    Touches [.report] s (s.refuseParcel c f cell i) := handOver_touches s _

theorem takeHead_touches (s : State) : Touches [.counters, .waiting, .intake] s s.takeHead := by
  unfold State.takeHead
  split
  · exact touches_then (touches_of (setIntake_touches s _) rfl) (handInternal_touches _ _) rfl
  · exact touches_refl _ s

theorem endVerification_touches (s : State) : Touches [.intake] s s.endVerification := setVerifier_touches s _

theorem stopReading_touches (s : State) : Touches [.waiting, .intake] s s.stopReading := by
  unfold State.stopReading
  split
  · exact touches_of (setVerifier_touches s _) rfl
  · intro b hb; cases b <;> first | rfl | simp at hb

theorem abandonVerification_touches (s : State) (c : RefusalCause) :
    Touches [.waiting, .intake, .report] s (s.abandonVerification c) := by
  unfold State.abandonVerification
  split
  · exact touches_then (touches_of (refuseParcel_touches s _ _ _ _) rfl) (stopReading_touches _) rfl
  · exact touches_then (touches_of (refuseParcel_touches s _ _ _ _) rfl) (endVerification_touches _) rfl
  all_goals exact touches_refl _ s

theorem refuseAll_touches {α : Type} (f : State → α → State)
    (h : ∀ s a, Touches [.report] s (f s a)) (l : List α) (s : State) : Touches [.report] s (l.foldl f s) :=
  touches_foldl h l s

theorem tearCell_touches (s : State) (cell : Nat) : Touches [.waiting, .intake, .report] s (s.tearCell cell) := by
  unfold State.tearCell
  dsimp only
  refine touches_then (touches_then ?_ (setCommits_touches _ _) rfl)
    (touches_foldl (fun s _ => refuseParcel_touches s _ _ _ _) _ _) rfl
  have h : Touches [.waiting, .intake, .report] s
      ((s.intake.queue.filter (fun e => decide (e.cell = cell))).foldl
        (fun s e => s.refuseParcel .torn e.fields cell noIndex)
        (s.setQueue (s.intake.queue.filter (fun e => decide (e.cell ≠ cell))))) :=
    touches_then (touches_of (setQueue_touches s _) rfl)
      (touches_foldl (fun s _ => refuseParcel_touches s _ _ _ _) _ _) rfl
  split
  · exact touches_then h (abandonVerification_touches _ _) rfl
  · exact h

theorem showIntake_touches (s : State) (tag : Nat) (w : SourceId) (beats : List (Nat × WriteBeat)) :
    Touches [.counters, .waiting, .intake, .report] s (s.showIntake tag w beats) := by
  unfold State.showIntake
  dsimp only
  have h : ∀ l : List Nat, Touches [.counters, .waiting, .intake, .report] s (l.foldl State.tearCell s) :=
    fun l => touches_foldl (fun s c => touches_of (tearCell_touches s c) rfl) l s
  split
  · exact touches_then (touches_then (h _) (setCommits_touches _ _) rfl) (takeHead_touches _) rfl
  · exact touches_then (h _) (takeHead_touches _) rfl

theorem takeCommit_touches (s : State) (c : PendingCommit) :
    Touches [.counters, .waiting, .intake, .report] s (s.takeCommit c) := by
  unfold State.takeCommit
  split
  · exact touches_then (touches_of (setQueue_touches s _) rfl) (takeHead_touches _) rfl
  · exact touches_of (refuseParcel_touches s _ _ _ _) rfl

theorem answerIntake_touches (s : State) (tag : Nat) (r : Response) :
    Touches [.counters, .waiting, .intake, .report] s (s.answerIntake tag r) := by
  unfold State.answerIntake
  dsimp only
  exact touches_then (touches_of (setCommits_touches s _) rfl) (touches_foldl takeCommit_touches _ _) rfl

theorem continueReading_touches (s : State) (cell : Nat) (f : Captured) (b : List Beat) :
    Touches [.counters, .waiting, .intake] s (s.continueReading cell f b) := by
  unfold State.continueReading
  dsimp only
  split
  · exact touches_of (setVerifier_touches s _) rfl
  · exact touches_then (touches_of (setVerifier_touches s _) rfl) (handInternal_touches _ _) rfl

theorem refuseVerified_touches (s : State) (c : RefusalCause) (f : Captured) (cell : Nat) :
    Touches [.counters, .waiting, .intake, .report] s ((s.refuseParcel c f cell noIndex).endVerification.takeHead) :=
  touches_then (touches_then (touches_of (refuseParcel_touches s _ _ _ _) rfl) (endVerification_touches _) rfl)
    (takeHead_touches _) rfl

theorem takeReadAnswer_touches (s : State) (beats : List ReadBeat) :
    Touches [.counters, .waiting, .intake, .report] s (s.takeReadAnswer beats) := by
  unfold State.takeReadAnswer
  split
  · split
    · exact refuseVerified_touches _ _ _ _
    · unfold State.takeBurst
      dsimp only
      split
      · exact refuseVerified_touches _ _ _ _
      · exact touches_of (continueReading_touches _ _ _ _) rfl
  · exact touches_then (touches_of (endVerification_touches s) rfl) (takeHead_touches _) rfl
  all_goals exact touches_refl _ s

theorem completeTagCheck_touches (s : State) : Touches [.counters, .waiting, .intake, .report] s s.completeTagCheck := by
  unfold State.completeTagCheck
  split
  · dsimp only
    split
    · exact refuseVerified_touches _ _ _ _
    · split
      · exact refuseVerified_touches _ _ _ _
      · exact touches_of (setVerifier_touches s _) rfl
  all_goals exact touches_refl _ s

theorem answerTaken_touches (s : State) (p : Dispatched) (d) :
    Touches [.counters, .waiting, .intake, .report] s (s.answerTaken p d) :=
  touches_then (touches_then (touches_of (handOver_touches s _) rfl) (endVerification_touches _) rfl)
    (takeHead_touches _) rfl

theorem answerRefused_touches (s : State) (p : Dispatched) (c : RefusalCause) (i : BitVec 16) :
    Touches [.counters, .waiting, .intake, .report] s (s.answerRefused p c i) :=
  touches_then (touches_then (touches_of (refuseParcel_touches s _ _ _ _) rfl) (endVerification_touches _) rfl)
    (takeHead_touches _) rfl

theorem tripIntake_touches (s : State) : Touches [.counters, .waiting, .intake, .report] s s.tripIntake := by
  unfold State.tripIntake
  dsimp only
  refine touches_then (touches_then (touches_then ?_ (setQueue_touches _ _) rfl)
    (touches_foldl (fun s _ => refuseParcel_touches s _ _ _ _) _ _) rfl) (takeHead_touches _) rfl
  split
  · exact touches_refl _ s
  · exact touches_of (abandonVerification_touches s _) rfl

end Sys2Proof.Machine
end

