-- ==== Sys2Proof/Laws/TouchesUnits.lean ====
section
/-! SUPPORT. The frames of the operations of the path unit, the cipher engine, the trip monitor, the screening clock,
the owners of parcels and the report writer: which blocks each can change. -/

namespace Sys2Proof.Machine

/-! ## The path unit -/

theorem editEntry_touches (s : State) (tag : Nat) (f : Entry → Entry) : Touches [.entries] s (s.editEntry tag f) :=
  setEntries_touches s _

theorem joinLists_touches (s : State) (e : Nat → Entry) : Touches [.entries, .counters] s (s.joinLists e) := by
  intro b hb; cases b <;> first | rfl | simp at hb

theorem acceptRead_touches (s : State) (r : ReadRequest) : Touches [.entries, .counters] s (s.acceptRead r) := by
  unfold State.acceptRead
  split
  all_goals exact joinLists_touches s _

/-- What accepting or receiving requests can change. -/
abbrev acceptBlocks : List Block := [.entries, .counters, .frames, .waiting, .intake, .report]

/-- What trying the waiting heads can change. -/
abbrev headBlocks : List Block := .heads :: acceptBlocks

theorem acceptWrite_touches (s : State) (w : WriteRequest) : Touches acceptBlocks s (s.acceptWrite w) := by
  unfold State.acceptWrite
  dsimp only
  exact touches_then (touches_then (touches_of (showFrames_touches s w) rfl) (joinLists_touches _ _) rfl)
    (showIntake_touches _ _ _ _) rfl

theorem accept_touches (s : State) (r : Request) : Touches acceptBlocks s (s.accept r) := by
  unfold State.accept
  split
  · exact touches_of (acceptRead_touches s _) rfl
  · exact acceptWrite_touches s _

theorem addHead_touches (s : State) (r : Request) : Touches [.heads] s (s.addHead r) := by
  intro b hb; cases b <;> first | rfl | simp at hb

theorem promote_touches (s : State) (source : SourceId) : Touches [.heads] s (s.promote source) := by
  unfold State.promote
  split
  · exact touches_refl _ s
  · exact touches_trans (t := s.setPath { s.path with behind := _ })
      (by intro b hb; cases b <;> first | rfl | simp at hb) (addHead_touches _ _)

theorem acceptHead_touches (s : State) (h : Head) : Touches headBlocks s (s.acceptHead h) := by
  unfold State.acceptHead
  dsimp only
  exact touches_then (touches_then (t := s.setPath { s.path with heads := _ })
    (by intro b hb; cases b <;> first | rfl | simp at hb) (accept_touches _ _) rfl) (promote_touches _ _) rfl

theorem acceptHeads_touches (n : Nat) : ∀ s : State, Touches headBlocks s (State.acceptHeads n s) := by
  induction n with
  | zero => exact fun s => touches_refl _ s
  | succ n ih =>
    intro s
    unfold State.acceptHeads
    split
    · exact touches_refl _ s
    · exact touches_trans (acceptHead_touches s _) (ih _)

theorem nextEpoch_touches (s : State) : Touches [.counters] s s.nextEpoch := by
  intro b hb; cases b <;> first | rfl | simp at hb

theorem retryHeads_touches (s : State) : Touches headBlocks s s.retryHeads :=
  touches_then (acceptHeads_touches _ s) (nextEpoch_touches _) rfl

theorem receive_touches (s : State) (r : Request) : Touches headBlocks s (s.receive r) := by
  unfold State.receive
  refine touches_then ?_ (nextEpoch_touches _) rfl
  split
  · intro b hb; cases b <;> first | rfl | simp at hb
  · split
    · exact touches_of (accept_touches s r) rfl
    · exact touches_of (addHead_touches s r) rfl

theorem passThroughData_touches (s : State) (tag : Nat) (beats : List ReadBeat) :
    Touches [.entries] s (s.passThroughData tag beats) := by
  unfold State.passThroughData
  split
  · split
    · exact editEntry_touches s _ _
    · exact touches_refl _ s
  · exact touches_refl _ s

theorem answerFrames_touches (s : State) (e : Entry) (k : Option Kept) (r : Response) :
    Touches [.frames, .report] s (s.answerFrames e k r) := by
  unfold State.answerFrames
  split
  · exact touches_refl _ s
  · split
    · exact touches_of (frameOkay_touches s _ _) rfl
    · exact frameError_touches s _ _

theorem answerConsumer_touches (s : State) (v : Option (BitVec 16)) (r : Response) :
    Touches [.indices] s (s.answerConsumer v r) := by
  unfold State.answerConsumer
  split
  · exact touches_refl _ s
  · split
    · intro b hb; cases b <;> first | rfl | simp at hb
    · exact touches_refl _ s

theorem writeAnswered_touches (s : State) (tag : Nat) (r : Response) :
    Touches (.indices :: acceptBlocks) s (s.writeAnswered tag r) := by
  unfold State.writeAnswered
  split
  · exact touches_refl _ s
  · split
    · split
      · dsimp only
        have h : ∀ (f : Entry → Entry) (e : Entry) (k : Option Kept) (v : Option (BitVec 16)),
            Touches (.indices :: acceptBlocks) s (((s.editEntry tag f).answerFrames e k r).answerConsumer v r) :=
          fun _ _ _ _ => touches_then (touches_then (touches_of (editEntry_touches s _ _) rfl)
            (answerFrames_touches _ _ _ _) rfl) (answerConsumer_touches _ _ _) rfl
        split
        · exact h _ _ _ _
        · exact touches_then (h _ _ _ _) (answerIntake_touches _ _ _) rfl
      · exact touches_refl _ s
    all_goals exact touches_refl _ s

theorem returnResponse_touches (s : State) (source : SourceId) (n : Nat) :
    Touches (.port :: headBlocks) s (s.returnResponse source n) := by
  unfold State.returnResponse
  split
  · exact touches_refl _ s
  · split
    · exact touches_refl _ s
    · dsimp only
      have h : ∀ r, Touches (.port :: headBlocks) s (s.setPath { s.path with returned := r }) := by
        intro r b hb; cases b <;> first | rfl | simp at hb
      split
      · exact touches_then (touches_then (h _) (setEntries_touches _ _) rfl)
          (retryHeads_touches _) rfl
      · exact touches_then (h _) (editEntry_touches _ _ _) rfl

theorem issueServer_touches (s : State) (e : Entry) : Touches [.entries, .port, .waiting] s (s.issueServer e) := by
  intro b hb; cases b <;> first | rfl | simp at hb

/-! ## The cipher engine -/

theorem undecided_touches (s : State) (tag n : Nat) : Touches [.entries] s (s.undecided tag n) := editEntry_touches s _ _

theorem grantLane_touches (s : State) (lane : Nat) (e : Entry) (t : Tracker) (i : LaneInputs) :
    Touches [.entries, .engine] s (s.grantLane lane e t i) :=
  touches_then (touches_of (editEntry_touches s _ _) rfl) (setEngine_touches _ _) rfl

theorem arbitrateLanes_touches (s : State) : Touches [.entries, .engine] s s.arbitrateLanes := by
  unfold State.arbitrateLanes
  split
  · split
    · split
      · exact grantLane_touches _ _ _ _ _
      · exact touches_refl _ s
    · exact touches_refl _ s
  · exact touches_refl _ s

theorem completeLane_touches (s : State) (lane : Nat) : Touches [.entries, .engine] s (s.completeLane lane) := by
  unfold State.completeLane
  split
  · exact touches_refl _ s
  · exact touches_then (touches_of (editEntry_touches s _ _) rfl) (setEngine_touches _ _) rfl

theorem tripCipher_touches (s : State) : Touches [.entries, .engine] s s.tripCipher :=
  touches_then (touches_of (setEntries_touches s _) rfl) (setEngine_touches _ _) rfl

/-! ## The trip monitor -/

/-- What steps 2 to 5 of a trip can change. -/
abbrev tripBlocksList : List Block :=
  [.entries, .engine, .leases, .keys, .revocations, .counters, .waiting, .intake, .report]

theorem tripBlocks_touches (s : State) : Touches tripBlocksList s s.tripBlocks :=
  touches_then (touches_then (touches_then (touches_of (tripCipher_touches s) rfl) (tripLeases_touches _) rfl)
    (eraseKeys_touches _) rfl) (tripIntake_touches _) rfl

/-- What taking a trip cause can change. -/
abbrev causeBlocks : List Block :=
  [.trip, .entries, .engine, .leases, .keys, .revocations, .counters, .waiting, .intake, .report, .status]

theorem takeCause_touches (s : State) (c : TripCause) (n : BitVec 32) : Touches causeBlocks s (s.takeCause c n) := by
  unfold State.takeCause
  split
  · dsimp only
    split
    · exact touches_then (touches_then (touches_then (touches_of (setLatch_touches s _) rfl)
        (statusEvent_touches _) rfl) (handOver_touches _ _) rfl) (tripBlocks_touches _) rfl
    · exact touches_of (setLatch_touches s _) rfl
  · split
    · exact touches_then (touches_of (handOver_touches s _) rfl) (tripBlocks_touches _) rfl
    · exact touches_refl _ s

theorem tamperAsserted_touches (s : State) : Touches causeBlocks s s.tamperAsserted := by
  unfold State.tamperAsserted
  split
  · exact touches_then (touches_of (setTrip_touches s _) rfl) (takeCause_touches _ _ _) rfl
  · exact touches_refl _ s

theorem tamperDeasserted_touches (s : State) : Touches [.trip] s s.tamperDeasserted := by
  unfold State.tamperDeasserted
  split
  · exact setTrip_touches s _
  · exact touches_refl _ s

theorem takeTripTest_touches (s : State) (p : Dispatched) : Touches causeBlocks s (s.takeTripTest p) := by
  unfold State.takeTripTest
  split
  · exact touches_of (answerRefused_touches s _ _ _) rfl
  · exact touches_then (takeCause_touches s _ _) (answerTaken_touches _ _ _) rfl

theorem clearTrip_touches (s : State) (n : BitVec 32) : Touches [.trip, .clock, .report, .status] s (s.clearTrip n) := by
  unfold State.clearTrip
  split
  · exact touches_refl _ s
  · exact touches_then (touches_then (touches_then (touches_of (handOver_touches s _) rfl)
      (setLatch_touches _ _) rfl) (setClock_touches _ _) rfl) (statusEvent_touches _) rfl

/-! ## The screening clock -/

theorem evaluateDay_touches (s : State) (c : DayCause) : Touches [.clock, .keys, .report] s (s.evaluateDay c) := by
  unfold State.evaluateDay
  dsimp only
  split
  · split
    · exact touches_then (touches_then (touches_of (setClock_touches s _) rfl) (dailyReload_touches _) rfl)
        (handOver_touches _ _) rfl
    · exact touches_of (setClock_touches s _) rfl
  · exact touches_refl _ s

theorem takeDayOffset_touches (s : State) (n : Nat) : Touches [.clock, .keys, .report] s (s.takeDayOffset n) :=
  touches_then (touches_of (setClock_touches s _) rfl) (evaluateDay_touches _ _) rfl

/-- What an announcement can change. -/
abbrev announceBlocks : List Block := [.clock, .keys, .leases, .revocations, .report, .draws]

theorem mainAnnounced_touches (s : State) : Touches announceBlocks s s.mainAnnounced := by
  unfold State.mainAnnounced
  dsimp only
  split
  · exact touches_then (touches_then (touches_of (setDraws_touches s _) rfl) (keysAnnounced_touches _) rfl)
      (leasesAnnounced_touches _) rfl
  · exact touches_then (touches_then (touches_of (setDraws_touches s _) rfl) (leasesAnnounced_touches _) rfl)
      (keysAnnounced_touches _) rfl

theorem announce_touches (s : State) (c : DayCause) : Touches announceBlocks s (s.announce c) := by
  unfold State.announce
  refine touches_then (touches_then ?_ (revocationsAnnounced_touches _) rfl) (evaluateDay_touches _ _) rfl
  split
  · exact mainAnnounced_touches s
  · exact touches_refl _ s

theorem secondPasses_touches (s : State) : Touches announceBlocks s s.secondPasses := by
  unfold State.secondPasses
  split
  · split
    · exact touches_then (touches_of (setClock_touches s _) rfl) (announce_touches _ _) rfl
    · exact touches_refl _ s
  · exact touches_refl _ s

theorem forwardStepPasses_touches (s : State) : Touches announceBlocks s s.forwardStepPasses := by
  unfold State.forwardStepPasses
  split
  · split
    · dsimp only
      split
      · exact touches_of (setClock_touches s _) rfl
      · exact touches_then (touches_of (setClock_touches s _) rfl) (announce_touches _ _) rfl
    · exact touches_refl _ s
  · exact touches_refl _ s

theorem holdBeginPasses_touches (s : State) : Touches [.clock] s s.holdBeginPasses := by
  unfold State.holdBeginPasses
  split
  · split
    · exact setClock_touches s _
    · exact touches_refl _ s
  · exact touches_refl _ s

theorem backwardStepPasses_touches (s : State) : Touches [.clock] s s.backwardStepPasses := by
  unfold State.backwardStepPasses
  split
  · split
    · exact setClock_touches s _
    · exact touches_refl _ s
  · exact touches_refl _ s

theorem tick_touches (s : State) : Touches announceBlocks s s.tick := by
  unfold State.tick
  split
  · exact secondPasses_touches s
  · split
    · exact forwardStepPasses_touches s
    · split
      · exact touches_of (holdBeginPasses_touches s) rfl
      · split
        · exact touches_of (backwardStepPasses_touches s) rfl
        · split
          · exact touches_of (setClock_touches s _) rfl
          · exact touches_refl _ s

/-- What a TIME parcel can change. -/
abbrev timeBlocks : List Block :=
  [.clock, .keys, .leases, .revocations, .report, .status, .draws, .trip, .entries, .engine, .counters, .waiting, .intake]

theorem changeClockState_touches (s : State) (c : ClockState) (n : BitVec 32) :
    Touches [.clock, .report, .status] s (s.changeClockState c n) :=
  touches_then (touches_then (touches_of (setClock_touches s _) rfl) (handOver_touches _ _) rfl)
    (statusEvent_touches _) rfl

theorem enterSuspect_touches (s : State) (n : BitVec 32) : Touches timeBlocks s (s.enterSuspect n) := by
  unfold State.enterSuspect
  dsimp only
  have h : ∀ c, Touches timeBlocks s (((s.setClock c).changeClockState .suspect n).holdNotice) :=
    fun _ => touches_then (touches_then (touches_of (setClock_touches s _) rfl) (changeClockState_touches _ _ _) rfl)
      (holdNotice_touches _) rfl
  split
  · exact touches_then (h _) (takeCause_touches _ _ _) rfl
  · exact h _

theorem jump_touches (s : State) (r : Nat) (n : BitVec 32) : Touches announceBlocks s (s.jump r n) :=
  touches_then (touches_then (touches_of (setClock_touches s _) rfl) (handOver_touches _ _) rfl)
    (announce_touches _ _) rfl

theorem correct_touches (s : State) (o : TimeOutcome) (r : Nat) (d : Int) (n : BitVec 32) :
    Touches timeBlocks s (s.correct o r d n) := by
  unfold State.correct
  split
  · exact touches_of (jump_touches s _ _) rfl
  · exact touches_of (setClock_touches s _) rfl
  · exact touches_of (setClock_touches s _) rfl
  · exact touches_of (setClock_touches s _) rfl
  · split
    · exact enterSuspect_touches s _
    · exact touches_of (setClock_touches s _) rfl
  · exact touches_refl _ s

theorem resync_touches (s : State) (r : Nat) (n : BitVec 32) : Touches (.status :: announceBlocks) s (s.resync r n) := by
  unfold State.resync
  dsimp only
  refine touches_then (touches_then ?_ (resumeNotice_touches _) rfl) (announce_touches _ _) rfl
  have h : ∀ c (q : Record), Touches (.status :: announceBlocks) s ((s.setClock c).handOver q) :=
    fun _ _ => touches_then (touches_of (setClock_touches s _) rfl) (handOver_touches _ _) rfl
  split
  · exact h _ _
  · exact touches_then (touches_then (h _ _) (handOver_touches _ _) rfl) (statusEvent_touches _) rfl

theorem applyTime_touches (s : State) (b : TimeBody) (n : BitVec 32) : Touches timeBlocks s (s.applyTime b n) := by
  unfold State.applyTime
  split
  · refine touches_then ?_ (resync_touches _ _ _) rfl
    split
    · exact touches_of (clearTrip_touches s _) rfl
    · exact touches_refl _ s
  · exact correct_touches s _ _ _ _

theorem timeTaken_touches (s : State) (p : Dispatched) : Touches timeBlocks s (s.timeTaken p) :=
  touches_then (applyTime_touches s _ _) (answerTaken_touches _ _ _) rfl

theorem takeTime_touches (s : State) (p : Dispatched) : Touches timeBlocks s (s.takeTime p) := by
  unfold State.takeTime
  dsimp only
  split
  · split
    · exact touches_then (touches_of (setDraws_touches s _) rfl) (timeTaken_touches _ _) rfl
    · exact touches_then (touches_of (setDraws_touches s _) rfl) (answerRefused_touches _ _ _ _) rfl
  · split
    · exact touches_of (answerRefused_touches s _ _ _) rfl
    · exact timeTaken_touches s p

/-! ## The read decision -/

/-- What the lease unit's part of a decision can change. -/
abbrev decideBlocks : List Block := [.leases, .keys, .revocations, .report]

theorem passPlain_touches (s : State) (i : Nat) (v : Serving) (sh : Show) (h : Header) (n : Nat) :
    Touches [.leases] s (s.passPlain i v sh h n).1 := setLease_touches s _ _

theorem passDark_touches (s : State) (i : Nat) (v : Serving) (sh : Show) (c : LeaseCause) (n : Nat) :
    Touches [.leases] s (s.passDark i v sh c n).1 := setLease_touches s _ _

theorem joinKey_touches (s : State) (i : Nat) (v : Serving) (sh : Show) (h : Header) (n : Nat) :
    Touches [.leases, .report] s (s.joinKey i v sh h n).1 := by
  unfold State.joinKey
  dsimp only
  split
  · exact touches_then (touches_of (handOver_touches s _) rfl) (passPlain_touches _ _ _ _ _ _) rfl
  · exact touches_of (passPlain_touches _ _ _ _ _ _) rfl

theorem useKey_touches (s : State) (i : Nat) (v : Serving) (sh : Show) (h : Header) (n : Nat) :
    Touches [.leases, .report] s (s.useKey i v sh h n).1 := by
  unfold State.useKey
  split
  · split
    · exact touches_of (passDark_touches _ _ _ _ _ _) rfl
    · exact touches_of (passPlain_touches _ _ _ _ _ _) rfl
  · split
    · exact touches_of (passDark_touches _ _ _ _ _ _) rfl
    · exact joinKey_touches _ _ _ _ _ _

theorem openLease_touches (s : State) (i : Nat) (h : Header) (slot : Nat) (k : Key) (n : Nat) :
    Touches decideBlocks s (s.openLease i h slot k n).1 := by
  unfold State.openLease
  dsimp only
  refine touches_then (touches_then (touches_then ?_ (setLease_touches _ _ _) rfl) (handOver_touches _ _) rfl)
    (useKey_touches _ _ _ _ _ _) rfl
  split
  · exact touches_of (editKey_touches s _ _) rfl
  · exact touches_refl _ s

theorem attemptOpening_touches (s : State) (i : Nat) (h : Header) (n : Nat) (old : Option LeaseCause) :
    Touches decideBlocks s (s.attemptOpening i h n old).1 := by
  unfold State.attemptOpening
  split
  · dsimp only
    split
    · exact touches_of (setLease_touches s _ _) rfl
    · exact touches_then (touches_of (setLease_touches s _ _) rfl) (handOver_touches _ _) rfl
  · split
    · exact touches_refl _ s
    · exact openLease_touches _ _ _ _ _ _

theorem servedBurst_touches (s : State) (i : Nat) (v : Serving) (sh : Show) (h : Header) (n : Nat) :
    Touches decideBlocks s (s.servedBurst i v sh h n).1 := by
  unfold State.servedBurst
  split
  · exact touches_of (endLease_touches s _ _) rfl
  · split
    · exact touches_of (setLease_touches s _ _) rfl
    all_goals
      split
      · exact touches_of (holdLease_touches s _ _ _) rfl
      · exact touches_of (useKey_touches _ _ _ _ _ _) rfl

theorem decideShow_touches (s : State) (i : Nat) (h : Header) (n : Nat) :
    Touches decideBlocks s (s.decideShow i h n).1 := by
  unfold State.decideShow
  split
  · exact attemptOpening_touches _ _ _ _ _
  · split
    · exact touches_then (touches_of (setLease_touches s _ _) rfl) (attemptOpening_touches _ _ _ _ _) rfl
    · split
      · exact attemptOpening_touches _ _ _ _ _
      · exact touches_refl _ s
  · split
    · exact touches_then (touches_of (endLease_touches s _ _) rfl) (attemptOpening_touches _ _ _ _ _) rfl
    · exact servedBurst_touches _ _ _ _ _ _

theorem decidePayload_touches (s : State) (i : Nat) (h : Header) (n : Nat) :
    Touches decideBlocks s (s.decidePayload i h n).1 := by
  unfold State.decidePayload
  split
  · exact touches_refl _ s
  · exact decideShow_touches _ _ _ _

/-- What the return of a cipher-path read's data can change. -/
abbrev dataBlocks : List Block := [.entries, .leases, .keys, .revocations, .report]

theorem decideBurst_touches (s : State) (tag : Nat) (t : Tracker) (data : List Beat) :
    Touches dataBlocks s (s.decideBurst tag t data) := by
  unfold State.decideBurst
  split
  · unfold State.decideFrame
    dsimp only
    exact touches_then (touches_of (decidePayload_touches s _ _ _) rfl) (editEntry_touches _ _ _) rfl
  · exact touches_of (editEntry_touches s _ _) rfl

theorem dataReturns_touches (s : State) (tag : Nat) (beats : List ReadBeat) :
    Touches dataBlocks s (s.dataReturns tag beats) := by
  unfold State.dataReturns
  split
  · split
    · split
      · split
        · exact touches_of (undecided_touches s _ _) rfl
        · exact decideBurst_touches _ _ _ _
      · exact touches_refl _ s
    all_goals exact touches_refl _ s
  · exact touches_refl _ s

/-! ## The owners -/

theorem applyGrantEntry_touches (c : GrantCommon) (s : State) (e : GrantEntry) :
    Touches [.keys, .report] s (State.applyGrantEntry c s e) := by
  unfold State.applyGrantEntry State.updateKey State.installKey
  split
  · dsimp only
    split
    · exact touches_then (touches_then (touches_of (setKey_touches s _ _) rfl) (bumpGeneration_touches _) rfl)
        (handOver_touches _ _) rfl
    · exact touches_of (setKey_touches s _ _) rfl
  · split
    · exact touches_refl _ s
    · dsimp only
      split
      · exact touches_then (touches_of (setKey_touches s _ _) rfl) (handOver_touches _ _) rfl
      · exact touches_of (setKey_touches s _ _) rfl

theorem applyGrant_touches (s : State) (c : GrantCommon) (entries : List GrantEntry) :
    Touches [.keys, .report] s (s.applyGrant c entries) :=
  touches_then (touches_foldl (applyGrantEntry_touches c) _ s) (bumpGeneration_touches _) rfl

theorem takeGrant_touches (s : State) (p : Dispatched) :
    Touches [.keys, .report, .counters, .waiting, .intake] s (s.takeGrant p) := by
  unfold State.takeGrant
  dsimp only
  split
  · exact touches_of (answerRefused_touches s _ _ _) rfl
  · exact touches_then (touches_of (applyGrant_touches s _ _) rfl) (answerTaken_touches _ _ _) rfl

theorem bring_touches (y : RevokeTally) (e : RevokeEntry) (u : Nat) (c : Condition) :
    Touches [.revocations] y.state (y.bring e u c).state := setRevocations_touches _ _

theorem applyRevokeEntry_touches (m : RevokeMode) (n : BitVec 32) (y : RevokeTally) (e : RevokeEntry) :
    Touches [.keys, .revocations, .report] y.state (RevokeTally.applyEntry m n y e).state := by
  unfold RevokeTally.applyEntry RevokeTally.actOnSlot
  split
  · dsimp only
    split
    · exact touches_then (touches_then (touches_of (handOver_touches y.state _) rfl) (emptySlot_touches _ _) rfl)
        (bring_touches _ _ _ _) rfl
    · exact touches_then (touches_then (touches_of (handOver_touches y.state _) rfl) (setKey_touches _ _ _) rfl)
        (bring_touches _ _ _ _) rfl
    · exact touches_of (bring_touches y _ _ _) rfl
  · exact touches_of (bring_touches y _ _ _) rfl

theorem applyRevokeEntries_touches (m : RevokeMode) (n : BitVec 32) (l : List RevokeEntry) :
    ∀ y : RevokeTally,
      Touches [.keys, .revocations, .report] y.state (l.foldl (RevokeTally.applyEntry m n) y).state := by
  induction l with
  | nil => exact fun y => touches_refl _ _
  | cons e rest ih => exact fun y => touches_trans (applyRevokeEntry_touches m n y e) (ih _)

theorem applyRevoke_touches (s : State) (m : RevokeMode) (n : BitVec 32) (entries : List RevokeEntry) :
    Touches [.leases, .keys, .revocations, .report] s (s.applyRevoke m n entries).state := by
  unfold State.applyRevoke
  dsimp only
  exact touches_then (touches_then (touches_of (applyRevokeEntries_touches m n entries
      { state := s, emptied := 0, withdrawn := 0, notDurable := 0, notices := [] }) rfl)
    (bumpGeneration_touches _) rfl) (touches_foldl (fun s id => revocationNotice_touches s id) _ _) rfl

theorem takeRevoke_touches (s : State) (p : Dispatched) :
    Touches [.leases, .keys, .revocations, .report, .counters, .waiting, .intake] s (s.takeRevoke p) := by
  unfold State.takeRevoke
  dsimp only
  split
  · exact touches_of (answerRefused_touches s _ _ _) rfl
  · exact touches_then (touches_of (applyRevoke_touches s _ _ _) rfl) (answerTaken_touches _ _ _) rfl
  · exact touches_refl _ s

/-- What a PLAN can change. -/
abbrev planBlocks : List Block :=
  [.plan, .frames, .leases, .keys, .revocations, .clock, .entries, .heads, .counters, .waiting, .intake, .report, .status]

theorem giveNotices_touches (s : State) (e : PlanEntry) :
    Touches [.frames, .leases, .keys, .revocations, .report] s (s.giveNotices e) := by
  unfold State.giveNotices
  dsimp only
  split
  · exact touches_then (touches_of (resetNotice_touches s _) rfl) (changeNotice_touches _ _) rfl
  · exact touches_then (touches_of (resetNotice_touches s _) rfl) (retireNotice_touches _ _) rfl

theorem installPlan_touches (s : State) (c : PlanCommon) (entries : List PlanEntry) :
    Touches [.plan, .frames, .leases, .keys, .revocations, .report] s (s.installPlan c entries) :=
  touches_then (touches_of (setPlan_touches s _) rfl) (touches_foldl (fun s e => giveNotices_touches s e) _ _) rfl

theorem applyPlan_touches (s : State) (c : PlanCommon) (entries : List PlanEntry) :
    Touches planBlocks s (s.applyPlan c entries) :=
  touches_then (touches_then (touches_then (touches_of (installPlan_touches s c entries) rfl)
    (takeDayOffset_touches _ _) rfl) (retryHeads_touches _) rfl) (statusEvent_touches _) rfl

theorem takePlan_touches (s : State) (p : Dispatched) : Touches planBlocks s (s.takePlan p) := by
  unfold State.takePlan
  dsimp only
  split
  · exact touches_of (answerRefused_touches s _ _ _) rfl
  · exact touches_then (applyPlan_touches s _ _) (answerTaken_touches _ _ _) rfl

theorem ownerTakes_touches {bs : List Block} (s : State) (kind : ParcelKind) (take : State → Dispatched → State)
    (h : ∀ p, Touches bs s (take s p)) : Touches bs s (s.ownerTakes kind take) := by
  unfold State.ownerTakes
  split
  · exact h _
  · exact touches_refl _ s

/-! ## The report writer and the internal requester -/

theorem issueInternal_touches (s : State) (r : InternalRequest) :
    Touches [.port, .waiting, .atMemory, .report, .status, .indices] s (s.issueInternal r) := by
  intro b hb; cases b <;> first | rfl | simp at hb

theorem grantPort_touches (s : State) : Touches (.entries :: [.port, .waiting, .atMemory, .report, .status, .indices]) s s.grantPort := by
  unfold State.grantPort
  split
  · exact touches_refl _ s
  · exact touches_of (issueServer_touches s _) rfl
  · exact touches_of (issueInternal_touches s _) rfl

theorem grantInternal_touches (s : State) (k : InternalKind) :
    Touches [.port, .waiting, .atMemory, .report, .status, .indices] s (s.grantInternal k) := by
  unfold State.grantInternal
  split
  · exact touches_refl _ s
  · exact touches_refl _ s
  · split
    · exact issueInternal_touches s _
    · exact touches_refl _ s

theorem internalAnswered_touches (s : State) (tag : Nat) : Touches [.atMemory] s (s.internalAnswered tag) := by
  intro b hb; cases b <;> first | rfl | simp at hb

theorem recordWriteAnswered_touches (s : State) (tag : Nat) (r : Response) :
    Touches [.atMemory, .report, .status, .indices] s (s.recordWriteAnswered tag r) := by
  unfold State.recordWriteAnswered
  split
  · split
    · exact touches_then (touches_of (internalAnswered_touches s _) rfl) (setReport_touches _ _) rfl
    · exact touches_refl _ s
  · exact touches_refl _ s

theorem controlWriteAnswered_touches (s : State) (tag : Nat) : Touches [.atMemory] s (s.controlWriteAnswered tag) := by
  unfold State.controlWriteAnswered
  split
  · split
    · exact internalAnswered_touches s _
    · exact touches_refl _ s
  · exact touches_refl _ s

theorem verifierReadAnswered_touches (s : State) (tag : Nat) (beats : List ReadBeat) :
    Touches [.counters, .waiting, .atMemory, .intake, .report] s (s.verifierReadAnswered tag beats) := by
  unfold State.verifierReadAnswered
  split
  · split
    · split
      · exact touches_then (touches_of (internalAnswered_touches s _) rfl) (takeReadAnswer_touches _ _) rfl
      · exact touches_refl _ s
    all_goals exact touches_refl _ s
  · exact touches_refl _ s

end Sys2Proof.Machine
end

