-- ==== Sys2Proof/Laws/Ops.lean ====
section
/-! SUPPORT. What the shared operations give: how a command acts, the report writer's hand-overs, the searches of the
key table and the revocation list, and updates of single records. -/

namespace Sys2Proof.Machine

/-! ## How a command acts -/

theorem mainUp_eq {s : State} (h : s.power.main = .up) : s.mainUp = true := by simp [State.mainUp, h]

theorem mainUp_eq_false {s : State} (h : s.power.main ≠ .up) : s.mainUp = false := by simp [State.mainUp, h]

theorem mainAct_up {s : State} (h : s.power.main = .up) (act : State → State) :
    s.mainAct act = (act s).presentReport := by
  simp [State.mainAct, mainUp_eq h]

theorem mainAct_down {s : State} (h : s.power.main ≠ .up) (act : State → State) : s.mainAct act = s := by
  simp [State.mainAct, mainUp_eq_false h]

theorem presentReport_down {s : State} (h : s.power.main ≠ .up) : s.presentReport = s := by
  simp [State.presentReport, mainUp_eq_false h]

/-- The report writer's next request leaves every block but the path unit's counters and the internal requests that wait. -/
theorem presentReport_report (s : State) : s.presentReport.report = s.report := by
  unfold State.presentReport
  split <;> (try split) <;> rfl
theorem presentReport_clock (s : State) : s.presentReport.clock = s.clock := presentReport_touches s .clock (by simp)
theorem presentReport_trip (s : State) : s.presentReport.trip = s.trip := presentReport_touches s .trip (by simp)
theorem presentReport_keys (s : State) : s.presentReport.keys = s.keys := presentReport_touches s .keys (by simp)
theorem presentReport_leases (s : State) : s.presentReport.leases = s.leases :=
  presentReport_touches s .leases (by simp)
theorem presentReport_frames (s : State) : s.presentReport.frames = s.frames :=
  presentReport_touches s .frames (by simp)
theorem presentReport_engine (s : State) : s.presentReport.engine = s.engine :=
  presentReport_touches s .engine (by simp)
theorem presentReport_intake (s : State) : s.presentReport.intake = s.intake :=
  presentReport_touches s .intake (by simp)
theorem presentReport_plan (s : State) : s.presentReport.plan = s.plan := presentReport_touches s .plan (by simp)
theorem presentReport_revocations (s : State) : s.presentReport.revocations = s.revocations :=
  presentReport_touches s .revocations (by simp)
theorem presentReport_power (s : State) : s.presentReport.power = s.power := presentReport_touches s .power (by simp)

theorem presentReport_entries (s : State) : s.presentReport.path.entries = s.path.entries :=
  presentReport_touches s .entries (by simp)

theorem presentReport_atMemory (s : State) : s.presentReport.internal.atMemory = s.internal.atMemory :=
  presentReport_touches s .atMemory (by simp)

theorem takeHead_of_law {s : State} (h : s.intake.verifier = .idle → s.intake.queue = []) : s.takeHead = s := by
  unfold State.takeHead
  split
  · rename_i h1 h2
    simp [h h1] at h2
  · rfl

theorem dispatched_up {s : State} {kind : ParcelKind} {p : Dispatched} (h : s.dispatched kind = some p) :
    s.power.main = .up := by
  unfold State.dispatched at h
  split at h <;> try simp at h
  simpa [State.mainUp] using h.1.1

/-! ## Hand-overs -/

theorem stage_room {r : Report} (h : r.staging.length < 64) (q : Record) :
    r.stage q = { r with staging := r.staging ++ [q] } := by
  unfold Report.stage
  exact if_pos h

theorem stage_full {r : Report} (h : ¬ r.staging.length < 64) (q : Record) : r.stage q = { r with lost := true } := by
  unfold Report.stage
  exact if_neg h

theorem stage_length {r : Report} (h : r.staging.length ≤ 64) (q : Record) : (r.stage q).staging.length ≤ 64 := by
  unfold Report.stage
  split
  · rename_i h1
    simp only [Config.stagingPlaces] at h1
    simp
    omega
  · exact h

theorem stage_grows (r : Report) (q : Record) : r.staging <+: (r.stage q).staging := by
  unfold Report.stage
  split
  · exact List.prefix_append _ _
  · exact List.prefix_refl _

/-! ## The key table -/

/-- A search finds a slot in which the key with the ID stands, counted from the first slot number (R3). -/
theorem findKeyFrom_some {id : KeyId} : ∀ {list : List (Option Key)} {n slot : Nat} {k : Key},
    findKeyFrom id list n = some (slot, k) → n ≤ slot ∧ list[slot - n]? = some (some k) ∧ k.keyId = id := by
  intro list
  induction list with
  | nil => intro n slot k h; simp [findKeyFrom] at h
  | cons a rest ih =>
    intro n slot k h
    cases a with
    | none =>
      obtain ⟨h1, h2, h3⟩ := ih (n := n + 1) h
      refine ⟨by omega, ?_, h3⟩
      rw [show slot - n = (slot - (n + 1)) + 1 by omega, List.getElem?_cons_succ]
      exact h2
    | some q =>
      unfold findKeyFrom at h
      split at h
      · rename_i hq
        simp at h
        obtain ⟨rfl, rfl⟩ := h
        simp [hq]
      · obtain ⟨h1, h2, h3⟩ := ih (n := n + 1) h
        refine ⟨by omega, ?_, h3⟩
        rw [show slot - n = (slot - (n + 1)) + 1 by omega, List.getElem?_cons_succ]
        exact h2

/-- A search that finds nothing means no slot holds a key with the ID (R3). -/
theorem findKeyFrom_none {id : KeyId} : ∀ {list : List (Option Key)} {n : Nat},
    findKeyFrom id list n = none → ∀ k, some k ∈ list → k.keyId ≠ id := by
  intro list
  induction list with
  | nil => intro n _ k hk; simp at hk
  | cons a rest ih =>
    intro n h k hk
    cases a with
    | none =>
      simp at hk
      exact ih (n := n + 1) h k hk
    | some q =>
      unfold findKeyFrom at h
      split at h
      · simp at h
      · rename_i hq
        rcases List.mem_cons.mp hk with hk | hk
        · cases hk
          exact hq
        · exact ih (n := n + 1) h k hk

theorem findKey_some {s : State} {id : KeyId} {slot : Nat} {k : Key} (h : s.findKey id = some (slot, k)) :
    s.key slot = some k ∧ k.keyId = id ∧ slot < s.keys.slots.length := by
  obtain ⟨_, h2, h3⟩ := findKeyFrom_some h
  have h2' : s.keys.slots[slot]? = some (some k) := by simpa using h2
  refine ⟨?_, h3, ?_⟩
  · simp [State.key, List.getD, h2']
  · exact (List.getElem?_eq_some_iff.mp h2').1

/-! ## The revocation list -/

theorem placeRevocation_perm (e : Revocation) (list : List Revocation) :
    List.Perm (placeRevocation e list) (e :: list) := by
  induction list with
  | nil => exact List.Perm.refl _
  | cons r rest ih =>
    unfold placeRevocation
    split
    · exact (List.Perm.cons r ih).trans (List.Perm.swap e r rest)
    · exact List.Perm.refl _

theorem placeRevocation_length (e : Revocation) (list : List Revocation) :
    (placeRevocation e list).length = list.length + 1 := (placeRevocation_perm e list).length_eq

theorem removePassed_length (now : Nat) (list : List Revocation) : (removePassed now list).length ≤ list.length :=
  List.length_filter_le _ _

/-! ## Fields of formats -/

/-- A field of n bytes is below 256^n (12.1). -/
theorem leValue_lt : ∀ bytes : List Byte, leValue bytes < 256 ^ bytes.length := by
  intro bytes
  induction bytes with
  | nil => simp [leValue]
  | cons b rest ih =>
    have hb : b.toNat < 256 := b.isLt
    simp only [leValue, List.length_cons, Nat.pow_succ]
    omega

theorem field_lt (bytes : List Byte) (offset n : Nat) : field bytes offset n < 256 ^ n := by
  unfold field
  refine lt_of_lt_of_le (leValue_lt _) (Nat.pow_le_pow_right (by decide) ?_)
  simp

end Sys2Proof.Machine
end

