-- ==== Sys2Proof/Laws/PerInstr.lean ====
section
/-! SUPPORT. The family Burst of LAWS.json: what well-formedness says of a command as syntax, one lemma for each
constructor of Instr. -/

namespace Sys2Proof.Laws.Burst

/-- How many beats a command carries on a port, none for a command that carries no burst. -/
def beatCount : Instr → Option Nat
  | .readAccept r => some r.length
  | .writeAccept r => some r.beats.length
  | .passThroughReadData _ beats => some beats.length
  | .decision _ beats => some beats.length
  | .responseReturn _ n => some n
  | .verifierReadAnswer _ beats => some beats.length
  | .memoryPortGrant => none
  | .writeAnswer _ _ => none
  | .laneGrant => none
  | .laneComplete _ => none
  | .tagCheckComplete => none
  | .grant => none
  | .revoke => none
  | .plan => none
  | .time => none
  | .tripTest => none
  | .announcement => none
  | .slewForwardStep => none
  | .holdBegin => none
  | .backwardStep => none
  | .tamperAssert => none
  | .tamperDeassert => none
  | .warmReset _ => none
  | .coldPowerUp _ _ => none
  | .vmainLoss => none
  | .identityWrite => none
  | .statusWrite => none
  | .recordWrite => none
  | .recordWriteAnswer _ _ => none
  | .controlWriteAnswer _ _ => none
  | .standbyLoss => none

/-- A well-formed command carries 1 to 16 beats where it carries any (R114, R115). -/
def Statement (i : Instr) : Prop := i.wellFormed = true → ∀ n, beatCount i = some n → 1 ≤ n ∧ n ≤ 16

theorem of_burst {n m : Nat} (h : burstLength n = true) (e : some n = some m) : 1 ≤ m ∧ m ≤ 16 := by
  cases e
  simpa [burstLength] using h

theorem of_none {m : Nat} (e : (none : Option Nat) = some m) : 1 ≤ m ∧ m ≤ 16 := by cases e

theorem readAccept (request : ReadRequest) : Statement (.readAccept request) := fun h _ e => of_burst h e
theorem writeAccept (request : WriteRequest) : Statement (.writeAccept request) := fun h _ e => of_burst h e
theorem memoryPortGrant : Statement .memoryPortGrant := fun _ _ e => of_none e
theorem passThroughReadData (tag : Nat) (beats : List ReadBeat) : Statement (.passThroughReadData tag beats) :=
  fun h _ e => of_burst h e
theorem decision (tag : Nat) (beats : List ReadBeat) : Statement (.decision tag beats) := fun h _ e => of_burst h e
theorem writeAnswer (tag : Nat) (response : Response) : Statement (.writeAnswer tag response) :=
  fun _ _ e => of_none e
theorem responseReturn (source : SourceId) (beats : Nat) : Statement (.responseReturn source beats) :=
  fun h _ e => of_burst h e
theorem laneGrant : Statement .laneGrant := fun _ _ e => of_none e
theorem laneComplete (lane : Nat) : Statement (.laneComplete lane) := fun _ _ e => of_none e
theorem verifierReadAnswer (tag : Nat) (beats : List ReadBeat) : Statement (.verifierReadAnswer tag beats) :=
  fun h _ e => of_burst h e
theorem tagCheckComplete : Statement .tagCheckComplete := fun _ _ e => of_none e
theorem grant : Statement .grant := fun _ _ e => of_none e
theorem revoke : Statement .revoke := fun _ _ e => of_none e
theorem plan : Statement .plan := fun _ _ e => of_none e
theorem time : Statement .time := fun _ _ e => of_none e
theorem tripTest : Statement .tripTest := fun _ _ e => of_none e
theorem announcement : Statement .announcement := fun _ _ e => of_none e
theorem slewForwardStep : Statement .slewForwardStep := fun _ _ e => of_none e
theorem holdBegin : Statement .holdBegin := fun _ _ e => of_none e
theorem backwardStep : Statement .backwardStep := fun _ _ e => of_none e
theorem tamperAssert : Statement .tamperAssert := fun _ _ e => of_none e
theorem tamperDeassert : Statement .tamperDeassert := fun _ _ e => of_none e
theorem warmReset (line : ResetLine) : Statement (.warmReset line) := fun _ _ e => of_none e
theorem coldPowerUp (tamper : TamperLevel) (intakeSel : BitVec 2) : Statement (.coldPowerUp tamper intakeSel) :=
  fun _ _ e => of_none e
theorem vmainLoss : Statement .vmainLoss := fun _ _ e => of_none e
theorem identityWrite : Statement .identityWrite := fun _ _ e => of_none e
theorem statusWrite : Statement .statusWrite := fun _ _ e => of_none e
theorem recordWrite : Statement .recordWrite := fun _ _ e => of_none e
theorem recordWriteAnswer (tag : Nat) (response : Response) : Statement (.recordWriteAnswer tag response) :=
  fun _ _ e => of_none e
theorem controlWriteAnswer (tag : Nat) (response : Response) : Statement (.controlWriteAnswer tag response) :=
  fun _ _ e => of_none e
theorem standbyLoss : Statement .standbyLoss := fun _ _ e => of_none e

end Sys2Proof.Laws.Burst
end

