-- ==== Sys2Proof/Tests/Slice0.lean ====
section
/-! SUPPORT. The model's own tests: ill-formed terms refused, small runs of single commands from the manual's examples,
and for every statement with hypotheses a witness that meets them together, clause by clause. -/

namespace Sys2Proof.Tests

open Sys2Proof.Machine

set_option Elab.async false

/-! ## Helpers -/

/-- The next state of an outcome, none where there is none. -/
def got (o : Host.Outcome State Fault Refusal) : Option State :=
  match o with
  | .next t => some t
  | .fault _ => none
  | .refused _ => none

/-- An outcome refuses a term as ill-formed. -/
def refusesForm (o : Host.Outcome State Fault Refusal) : Bool :=
  match o with
  | .next _ => false
  | .fault _ => false
  | .refused r => decide (r = .illFormed)

/-- The state after a command, the state itself where there is none. -/
def after (s : State) (i : Instr) : State := (got (exec i s)).getD s

/-- The part running since long with nothing staged: clock RUNNING at 1000 s, latch NORMAL. -/
def running : State :=
  { State.reset with
    clock := { Clock.initial with reading := 65536 * 1000, state := .running }
    trip := { latch := .normal, tamper := .deasserted }
    report := { Report.initial [] with identityPending := false } }

/-- The attributes of the requests of the tests. -/
def attrs : Attributes := { protection := 2, cache := 3, quality := 7 }

/-- A read burst and a write burst of the tests. -/
def rd (source : SourceId) (address : BitVec 36) (length : Nat) : ReadRequest :=
  { source := source, address := address, attributes := attrs, length := length }
def wr (source : SourceId) (address : BitVec 36) (beats : List WriteBeat) : WriteRequest :=
  { source := source, address := address, attributes := attrs, beats := beats }

/-- n beats of a list of bytes. -/
def toBeats : List Byte → Nat → List Beat
  | _, 0 => []
  | bytes, n + 1 => beatOfBytes bytes :: toBeats (bytes.drop 16) n

/-- Beat 0 of a parcel for device 0. -/
def parcelHead (kind length number : Nat) : Beat :=
  beatOfBytes (leBytes 2 0x7C3E ++ leBytes 1 1 ++ leBytes 1 kind ++ leBytes 2 length ++ leBytes 4 number
    ++ leBytes 6 0)

/-- A parcel as the verifier's buffer holds it, its tag left zero. -/
def parcel (kind number : Nat) (body : List Byte) : List Beat :=
  parcelHead kind (body.length + 32) number :: toBeats body (body.length / 16 + 1)

/-- A state with a parcel at its owner. -/
def withParcel (s : State) (buffer : List Beat) : State :=
  s.setIntake { s.intake with verifier := .withOwner 3 buffer }

/-- What the owner of a kind reads of it. -/
def taken (s : State) (kind : ParcelKind) : Dispatched :=
  (s.dispatched kind).getD { cell := 0, fields := { number := 0, kind := 0, length := 0 }, bytes := [] }

/-- A TIME parcel's body. -/
def timeBytes (seconds fraction flags : Nat) : List Byte :=
  leBytes 8 seconds ++ leBytes 2 fraction ++ leBytes 1 flags ++ leBytes 5 0

def timeParcel (seconds fraction flags : Nat) : List Beat := parcel 4 9 (timeBytes seconds fraction flags)

/-- A key of the tests: ID 7, revision 2, feature 9, every auditorium, window 100 s to 5000 s. -/
def key7 : Key :=
  { state := .opened, keyId := 7, revision := 2, feature := 9, auditoriums := 0xFFFF, notBefore := 100
    notAfter := 5000, grace := 30, maxRun := 120, allowance := some { base := 3, current := 2 }, daily := false
    value := 0xABCDEF, noticeGiven := false }

/-- A frame header of the tests: show 5, key 7, feature 9, frame index 3, two payload beats. -/
def header7 : Header :=
  { clear := false, tag := 5, keyId := 7, feature := 9, frameIndex := 3, payloadLength := 32 }

/-- The show a lease of the tests serves. -/
def show5 : Show :=
  { tag := 5, feature := 9, mode := .show, start := 900, hardEnd := 8100, keys := [7], plainCount := 0
    darkCount := 0, firstRefusal := none }

/-- Stream 2 of the tests: bound to source 0x22, 4 slots of 512 KiB from 4 GiB on. -/
def stream2 : Stream :=
  { enabled := true, source := 0x22, mode := .show, sizeCode := 0, slotCount := 4, base := 0x100000000
    reserved := 2, generation := 1 }

def withStream (s : State) (i : Nat) (t : Stream) : State :=
  s.setPlan { s.plan with streams := s.plan.streams.set i t, fill := 0xFF }

/-- A part with stream 2 enabled, key 7 in slot 0 and a READY frame in slot 1 of the stream's ring. -/
def keyed : State :=
  ((withStream running 2 stream2).setKey 0 (some key7)).setFrame 2 1
    { state := .ready 0x10 header7, generation := 4 }

/-- The tracker of a read of 4 beats of that frame from beat offset 3: one header beat, both payload beats, one
beyond. -/
def track (first : Nat) : Tracker :=
  { source := 0x22, stream := 2, slot := 1, firstOffset := first, count := 4, slotGeneration := 4
    streamGeneration := 1, state := .awaitingMemory, inputs := none }

def entryOf (tag : Nat) (kind : EntryKind) (state : EntryState) (length : Nat) (response : List OutBeat) : Entry :=
  { tag := tag, source := 0x22, address := 0x100080030, attributes := attrs, length := length, kind := kind
    state := state, response := response, returned := 0 }

def withEntries (s : State) (entries : List Entry) : State :=
  s.setPath { s.path with entries := entries, nextTag := 100 }

/-- That read with its data about to return. -/
def reading (s : State) : State := withEntries s [entryOf 40 (.cipher (track 3)) .atMemory 4 []]

/-- Beats of memory answered OKAY. -/
def okays (data : List Beat) : List ReadBeat := data.map (fun d => { data := d, response := .okay })

def data4 : List ReadBeat := okays [1, 2, 3, 4]

/-- A request of the internal requester at memory. -/
def atMemory (s : State) (tag : Nat) (kind : InternalKind) : State :=
  s.setInternal { s.internal with atMemory := [{ tag := tag, kind := kind }] }

/-- The part with RESET_N asserted, and with VMAIN absent. -/
def inReset : State := running.setPower { running.power with main := .inReset }
def unpowered : State := running.setPower { running.power with main := .off }

def tripped : State := running.setTrip { latch := .tripped .tripTest, tamper := .deasserted }

/-! ## Well-formedness: every check refuses an ill-formed term -/

theorem test_burst_of_no_beats_refused :
    refusesForm (exec (.readAccept (rd 1 0 0)) running) = true := by decide +kernel
theorem test_burst_of_17_beats_refused :
    refusesForm (exec (.readAccept (rd 1 0 17)) running) = true := by decide +kernel
theorem test_burst_of_16_beats_runs :
    (got (exec (.readAccept (rd 1 0 16)) running)).isSome = true := by decide +kernel
theorem test_empty_write_refused :
    refusesForm (exec (.writeAccept (wr 1 0 [])) running) = true := by decide +kernel
theorem test_empty_data_refused : refusesForm (exec (.passThroughReadData 0 []) running) = true := by decide +kernel
theorem test_empty_decision_refused : refusesForm (exec (.decision 0 []) running) = true := by decide +kernel
theorem test_empty_return_refused : refusesForm (exec (.responseReturn 1 0) running) = true := by decide +kernel
theorem test_empty_verifier_read_refused : refusesForm (exec (.verifierReadAnswer 0 []) running) = true := by
  decide +kernel
theorem test_fifth_lane_refused : refusesForm (exec (.laneComplete 4) running) = true := by decide +kernel
theorem test_no_word_spells_a_command (nbits w : Nat) : decodeTableWord nbits w = none := rfl

/-! ## Small runs -/

/-- R188, R187: after reset the identity write is made first, at offset 0x8020, with the family code, revision 1, 128
slots and 16 streams. -/
theorem test_identity_write_first :
    ((after State.reset .identityWrite).path.issued.map (fun r => (r.address, r.beats.map (fun b => b.data))))
      = some (0x8020, [beatOfBytes (leBytes 6 0 ++ leBytes 2 0x1640 ++ leBytes 2 0x1640 ++ leBytes 2 1
          ++ leBytes 2 128 ++ leBytes 1 16 ++ [0]), 0]) := by decide +kernel

/-- 12.8: the record of the TIME parcel of the torn-commit example, as it stands in the ring. -/
theorem test_record_bytes_of_12_8 :
    Record.bytes
        { kind := .parcelTaken, cause := 0x04, stream := 0xFF, subject := 0x511, seconds := 1771200000, data0 := 2
          data1 := 2, data2 := 16384, index := 5 } false
      = [0x01, 0x04, 0x00, 0xFF, 0x11, 0x05, 0x00, 0x00, 0x00, 0x5E, 0x92, 0x69, 0x00, 0x00, 0x00, 0x00,
         0x02, 0x00, 0x00, 0x00, 0x02, 0x00, 0x00, 0x00, 0x00, 0x40, 0x00, 0x00, 0x05, 0x00, 0x00, 0x00] := by
  decide +kernel

/-- 12.8: an offset of -2.25 s as whole seconds toward zero and a signed fraction. -/
theorem test_offset_fields_of_12_8 :
    (offsetSeconds (-147456), offsetFraction (-147456)) = (0xFFFFFFFE, 0x80004000) := by decide +kernel

/-- R34: the boundaries of the table of outcomes, with 6 s of budget. -/
theorem test_outcomes_at_their_boundaries :
    ([86400 * 65536 + 1, 86400 * 65536, 60 * 65536, 60 * 65536 - 1, 1, 0, -1, -6 * 65536, -6 * 65536 - 1].map
        running.clock.weigh)
      = [.suspect, .jump, .jump, .slewForward, .slewForward, .noChange, .slewBackward, .slewBackward, .suspect] := by
  decide +kernel

/-- R36: a slew of 5 s forward takes its first step after 8 s of reference time. -/
theorem test_forward_step :
    (let s := running.setClock { running.clock with remainder := 5 * 65536, timer := 8 * 65536 - 100 }
     (after s .slewForwardStep).clock)
      = { running.clock with reading := 65536 * 1000 + 100 + 8192, remainder := 5 * 65536 - 8192, timer := 0 } := by
  decide +kernel

/-- R37: a backward step begins its hold at 63.875 s and completes at 64 s, charging the budget. -/
theorem test_backward_step :
    (let s := running.setClock { running.clock with remainder := -8192, timer := 64 * 65536 - 8192 - 1 }
     ((after s .holdBegin).clock.hold, (after (after s .holdBegin) .backwardStep).clock))
      = (true, { running.clock with reading := 65536 * 1000 + 1, budget := 47 }) := by decide +kernel

/-- R31, R22: the announcement of 1001 s closes a key whose not-after it is. -/
theorem test_announcement_closes_a_key :
    (let s := (running.setKey 0 (some { key7 with notAfter := 1001 })).setClock
        { running.clock with reading := 65536 * 1001 }
     (s.keysAnnounced.key 0).map (fun k => k.state)) = some .closed := by decide +kernel

/-- R31: the reading comes to the next whole second; with the main domain down the clock does it alone. -/
theorem test_announcement_while_down :
    (after (unpowered.setClock { running.clock with reading := 65536 * 1000 + 7 }) .announcement).clock.reading
      = 65536 * 1001 := by decide +kernel

/-- R176: TAMPER erases the key, ends the lease with its record after TRIPPED, and latches. -/
theorem test_tamper_trips :
    (let t := after (keyed.setLease 2 (.serving .running show5)) .tamperAssert
     (t.key 0, t.lease 2, t.trip.latch, t.report.staging.map (fun r => (r.kind, r.cause))))
      = (none, .idle, .tripped .tamper, [(.tripped, 1), (.leaseEnded, 4)]) := by decide +kernel

/-- R174: TAMPER_N deasserted leaves the latch. -/
theorem test_tamper_deasserted :
    (after (running.setTrip { latch := .tripped .tamper, tamper := .asserted }) .tamperDeassert).trip
      = { latch := .tripped .tamper, tamper := .deasserted } := by decide +kernel

/-- R128, R188: a warm reset samples INTAKE_SEL and stages RESET_DONE. -/
theorem test_warm_reset :
    (let t := after keyed (.warmReset (.pulse 2))
     (t.intakeSel, t.keys.slots.countP (fun k => k.isSome), t.report.staging.map (fun r => (r.kind, r.data0, r.data1))))
      = (2, 0, [(.resetDone, 1, 2)]) := by decide +kernel

/-- R171, R172: VMAIN lost and back with the mark intact keeps the clock; with the mark lost it does not. -/
theorem test_power_cycles :
    ((after (after running .vmainLoss) (.coldPowerUp .deasserted 1)).clock.state,
     (after (after (after running .vmainLoss) .standbyLoss) (.coldPowerUp .deasserted 1)).clock.state)
      = (.running, .unset) := by decide +kernel

/-- R117, R121: a read over a slot boundary is answered SLVERR with fill and no memory access. -/
theorem test_span_read :
    ((after keyed (.readAccept (rd 9 0x10007FFF0 2))).path.entries.map
        (fun e => (e.kind, e.state, e.response)))
      = [(.span, .composed, List.replicate 2 { data := 0xFF, response := .slverr, plain := false })] := by
  decide +kernel

/-- R80, R81: beat 0 with full strobes restarts a READY slot. -/
theorem test_frame_restart :
    (after keyed (.writeAccept (wr 0x11 0x100080000 [fullBeat 77]))).frame 2 1
      = { state := .header 0x11 1 [77], generation := 5 } := by decide +kernel

/-- R87, R90: any other beat in its frame breaks a READY slot REWRITE, with one record. -/
def rewritten : State := after keyed (.writeAccept (wr 0x11 0x100080050 [fullBeat 77]))

theorem test_frame_rewrite : (rewritten.frame 2 1).state = .broken .rewrite (some 0x10) (some header7) := by
  decide +kernel
theorem test_frame_rewrite_record :
    rewritten.report.staging = [rewritten.frameBrokenRecord 2 1 .rewrite (some 0x10) (some header7) 0x11 5] := by
  decide +kernel

/-- R126: the request accepted earliest is issued first. -/
theorem test_memory_port_grant :
    (let s := withEntries running [entryOf 4 .passThrough .atMemory 1 [], entryOf 5 .passThrough .issueWait 1 [],
        entryOf 6 .passThrough .issueWait 1 []]
     (after s .memoryPortGrant).path.issued.map (fun r => r.tag)) = some 5 := by decide +kernel

/-- R120: pass-through data is carried as it comes, and the request stays until its last beat. -/
theorem test_pass_through :
    (let s := withEntries running [entryOf 5 .passThrough .atMemory 2 []]
     let t := after (after s (.passThroughReadData 5 (okays [8]))) (.responseReturn 0x22 4)
     (t.path.returned.map (fun r => (r.beats, r.last)), t.path.entries.length)) = (some ([(8, .okay)], false), 1) := by
  decide +kernel

/-- R56, R96: a burst that opens a lease: header beat raw, payload waiting for a lane, fill beyond. -/
theorem test_decision_opens :
    (let t := after (reading keyed) (.decision 40 data4)
     ((t.lease 2).busy, t.path.entries.map (fun e => e.response.map (fun b => (b.data, b.plain))),
      (t.key 0).bind (fun k => k.allowance.map (fun a => a.current))))
      = (true, [[(1, false), (2, true), (3, true), (0xFF, false)]], some 1) := by decide +kernel

/-- R104: the grant puts the burst in lane 0 with payload beat numbers from 0. -/
theorem test_lane_grant :
    (let t := after (after (reading keyed) (.decision 40 data4)) .laneGrant
     (t.engine.lanes.map (fun j => j.map (fun job => job.beats.map (fun b => (b.place, b.number))))))
      = [some [(1, 0), (2, 1)], none, none, none] := by decide +kernel

/-- R101: frame index in the first four bytes of the counter block, payload beat number in the next four. -/
theorem test_counter_block : counterBlock 3 1 = 0x0000000100000003 := by decide +kernel

/-- R102: the completed lane is FREE and the tracker RETURNING. -/
theorem test_lane_complete :
    (let t := after (after (after (reading keyed) (.decision 40 data4)) .laneGrant) (.laneComplete 0)
     (t.engine.lanes, t.path.entries.map (fun e => (e.trackerState, e.state))))
      = ([none, none, none, none], [(some .returning, .composed)]) := by decide +kernel

/-- R184: the consumer index takes a value below 512 and keeps its old one for 512. -/
theorem test_consumer_index :
    ([511, 512].map (fun v =>
        (after (withEntries running [entryOf 5 (.write { beats := [], kept := none, cells := [], consumer := some v })
          .atMemory 1 []]) (.writeAnswer 5 .okay)).report.consumer)) = [511, 0] := by decide +kernel

/-- R131: a write to a queued cell tears its parcel. -/
theorem test_torn :
    (let s := running.setIntake { commits := [], queue := [{ cell := 4, fields := ⟨0x510, 3, 96⟩ }],
                                  verifier := .withOwner 9 [] }
     let t := after s (.writeAccept (wr 1 0x1010 [fullBeat 1]))
     (t.intake.queue, t.report.staging.map (fun r => (r.kind, r.cause, r.subject)))) = ([], [(.parcelRefused, 5, 0x510)]) := by
  decide +kernel

/-- R135, R137: a whole parcel of 3 beats read in one burst is CHECKING with its 3 beats. -/
theorem test_verifier_read :
    (let s := atMemory (running.setIntake { commits := [], queue := [], verifier := .reading 3 ⟨9, 4, 48⟩ [] }) 8
        (.verifierRead 3 0 16)
     (after s (.verifierReadAnswer 8 (okays (timeParcel 1000 0 0 ++ List.replicate 13 5)))).intake.verifier)
      = .checking 3 (timeParcel 1000 0 0) := by decide +kernel

/-- R136, R141: a length that TIME does not admit is refused LENGTH, with the fields as read. -/
theorem test_verifier_length :
    (let s := atMemory (running.setIntake { commits := [], queue := [], verifier := .reading 3 ⟨8, 4, 48⟩ [] }) 8
        (.verifierRead 3 0 16)
     (after s (.verifierReadAnswer 8 (okays (parcelHead 4 64 9 :: List.replicate 15 0)))).report.staging.map
       (fun r => (r.kind, r.cause, r.subject, r.data2))) = [(.parcelRefused, 0x02, 9, 64)] := by decide +kernel

/-- R183, R182: the producer index wraps from 511 to 0 at an OKAY. -/
theorem test_record_answer :
    (let s := atMemory (running.setReport { running.report with staging := [firstResetDone], producer := 511 }) 8
        .recordWrite
     let t := after s (.recordWriteAnswer 8 .okay)
     (t.report.producer, t.report.staging, t.report.statusPending)) = (0, [], true) := by decide +kernel

/-- R186: a status write's answer ends the request, whatever it is. -/
theorem test_control_answer :
    (after (atMemory running 8 .statusWrite) (.controlWriteAnswer 8 .slverr)).internal.atMemory = [] := by
  decide +kernel

/-- R187: the status write goes before the record write. -/
theorem test_status_first :
    (let s := running.setReport { running.report with staging := [firstResetDone], statusPending := true }
     ((after s .statusWrite).path.issued.map (fun r => r.address), (after s .recordWrite).path.issued))
      = (some 0x8000, none) := by decide +kernel

/-- R8: a GRANT while the clock is UNSET and the latch NORMAL is refused CLOCK_UNSET. -/
theorem test_grant_refused :
    (let s := withParcel (running.setClock Clock.initial) (parcel 1 9 (List.replicate 64 0))
     (after s .grant).report.staging.map (fun r => (r.kind, r.cause))) = [(.parcelRefused, 0x09)] := by
  decide +kernel

def revokeBytes (mode id revision retainUntil : Nat) : List Byte :=
  leBytes 1 mode ++ leBytes 1 1 ++ leBytes 14 0 ++ leBytes 4 id ++ leBytes 2 revision ++ leBytes 2 0
    ++ leBytes 8 retainUntil

/-- R152: AFTER_SHOW withdraws a listed OPEN key; R153: its entry is PENDING until the freeing time. -/
theorem test_revoke_after_show :
    (let s := withParcel (keyed.setLease 2 (.serving .running show5)) (parcel 2 9 (revokeBytes 2 7 2 2000))
     let t := after s .revoke
     ((t.key 0).map (fun k => k.state), t.revocations, t.keys.generation))
      = (some .withdrawn, [⟨7, 2, 6800, .pending⟩], 1) := by decide +kernel

/-- R152, R71: IMMEDIATE empties the slot and ends the lease. -/
theorem test_revoke_immediate :
    (let s := withParcel (keyed.setLease 2 (.serving .running show5)) (parcel 2 9 (revokeBytes 1 7 2 2000))
     let t := after s .revoke
     (t.key 0, t.lease 2, t.report.staging.map (fun r => r.kind)))
      = (none, .idle, [.keyRevoked, .leaseEnded, .parcelTaken]) := by decide +kernel

def planBytes (revision stream action source mode sizeCode slotCount reserved base : Nat) : List Byte :=
  leBytes 4 revision ++ leBytes 4 21600 ++ leBytes 1 1 ++ leBytes 1 1 ++ leBytes 6 0 ++ leBytes 16 0x10
    ++ leBytes 1 stream ++ leBytes 1 action ++ leBytes 1 source ++ leBytes 1 mode ++ leBytes 1 sizeCode
    ++ leBytes 1 slotCount ++ leBytes 1 reserved ++ leBytes 1 0 ++ leBytes 8 base

/-- R167: a SET that changes the reserved trackers alone moves no generation. -/
theorem test_plan_reserve :
    (let s := withParcel keyed (parcel 3 9 (planBytes 7 2 1 0x22 1 0 4 6 0x100000000))
     let t := after s .plan
     (t.stream 2, t.plan.revision, t.frame 2 1)) = ({ stream2 with reserved := 6 }, 7, keyed.frame 2 1) := by
  decide +kernel

/-- R168, R93: a RETIRE disables the stream, moves its generation and vacates its frame records. -/
theorem test_plan_retire :
    (let s := withParcel keyed (parcel 3 9 (planBytes 7 2 2 0 0 0 0 0 0))
     let t := after s .plan
     (t.stream 2, t.frame 2 1))
      = ({ stream2 with enabled := false, generation := 2 }, { state := .vacant, generation := 5 }) := by
  decide +kernel

/-- R35, 12.4: a jump of 60 s from 1000 s sets the reading and hands over its CLOCK_STEP record. -/
theorem test_time_jump :
    (let t := running.setReading .jump { running.clock with reading := 65536 * 1060 } 9
     (t.clock.reading, t.report.staging.map (fun r => (r.kind, r.cause, r.subject, r.seconds, r.data0))))
      = (65536 * 1060, [(.clockStep, 1, 9, 1060, 1000)]) := by decide +kernel

/-- R175: a TRIP_TEST trips and is TAKEN. -/
theorem test_trip_test :
    (let t := after (withParcel keyed (parcel 5 9 (List.replicate 16 0))) .tripTest
     (t.trip.latch, t.report.staging.map (fun r => (r.kind, r.data0, r.data1))))
      = (.tripped .tripTest, [(.tripped, 1, 2), (.parcelTaken, 2, 1)]) := by decide +kernel

/-- R114: the attributes of a request reach the memory port as issued. -/
theorem test_attributes_forwarded :
    (after (after running (.readAccept (rd 1 0x50000 4))) .memoryPortGrant).path.issued
      = some { tag := 0, write := false, address := 0x50000, length := 4, beats := [], attributes := attrs } := by
  decide +kernel

/-- A third SUSPECT entry that its owner holds when TAMPER_N is asserted. -/
def metByTamper : State :=
  after (withParcel (keyed.setClock { keyed.clock with suspectCount := 2 }) (timeParcel 993 65535 0)) .tamperAssert

/-- The kinds, causes and first two values of the records staged. -/
def told (s : State) : List (RecordKind × Byte × BitVec 32 × BitVec 32) :=
  s.report.staging.map (fun r => (r.kind, r.cause, r.data0, r.data1))

/-- R33, R178, R180: a third SUSPECT entry that meets an assertion of TAMPER_N is applied with a REPEAT record, or refused
TRIPPED. -/
theorem test_tamper_meets_the_third_suspect :
    metByTamper.meetsTamper (timeBody (taken metByTamper .time).bytes) = true
      ∧ (metByTamper.timeTaken (taken metByTamper .time)).trip = { latch := .tripped .tamper, tamper := .asserted }
      ∧ told (metByTamper.timeTaken (taken metByTamper .time))
        = [(.tripped, 1, 1, 1), (.clockState, 2, 1, 0), (.tripped, 4, 2, 1), (.parcelTaken, 4, 5, 0xFFFFFFFA)]
      ∧ told (metByTamper.answerRefused (taken metByTamper .time) .tripped noIndex)
        = [(.tripped, 1, 1, 1), (.parcelRefused, 8, 4, 3)] := by
  decide +kernel

/-- R137: a parcel whose tag is the authentication of the rest goes to its owner. -/
theorem test_tag_check :
    (let b := parcelHead 4 48 9
     let m := Config.messageAuthentication Config.deviceRootKey (bytesOf [b, 0])
     (after (running.setIntake { commits := [], queue := [], verifier := .checking 3 [b, 0, m] })
       .tagCheckComplete).intake.verifier = .withOwner 3 [b, 0, m]) := by
  simp only [after, exec, execTagCheckComplete]
  rw [mainAct_up rfl]
  simp [got, presentReport_intake, State.completeTagCheck, State.setIntake, tagMatches, State.isTripped, running,
    State.setVerifier]

/-! ## Witnesses: the laws of a concrete state, by computation -/

def keyDec (k : Key) : Decidable k.inRange :=
  decidable_of_iff
    (k.keyId ≠ 0 ∧ k.auditoriums ≠ 0 ∧ k.notBefore < k.notAfter ∧ k.notAfter < 2 ^ 40 ∧ k.grace ≤ 240 ∧ 1 ≤ k.maxRun
      ∧ k.maxRun ≤ 480 ∧ (k.daily = true → k.allowance ≠ none)
      ∧ k.allowance.all (fun a => decide (1 ≤ a.base ∧ a.base ≤ 65535 ∧ a.current ≤ a.base)) = true)
    (by cases h : k.allowance <;> simp [Key.inRange, h])

def frameDec (f : Frame) : Decidable f.inRange := by
  unfold Frame.inRange
  split <;> infer_instance

def disciplineDec (c : Clock) : Decidable c.disciplined := by
  unfold Clock.disciplined
  infer_instance

/-- A lease lists 1 to 8 distinct key IDs, if it lists any. -/
def leaseFits : Lease → Bool
  | .serving _ sh => decide (sh.keys.Nodup ∧ 1 ≤ sh.keys.length ∧ sh.keys.length ≤ 8)
  | .idle => true
  | .refused _ _ => true

def lawDec (s : State) : Decidable (KeyTableLaw s) :=
  have : DecidablePred Key.inRange := keyDec
  by unfold KeyTableLaw; infer_instance
def revocationDec (s : State) : Decidable (RevocationLaw s) := by unfold RevocationLaw NonePassed; infer_instance
def leaseDec (s : State) : Decidable (LeaseLaw s) :=
  decidable_of_iff (s.leases.length = 16 ∧ ∀ l ∈ s.leases, leaseFits l = true) (by
    unfold LeaseLaw
    constructor
    · rintro ⟨h, k⟩
      exact ⟨h, fun st sh m => by simpa [leaseFits] using k _ m⟩
    · rintro ⟨h, k⟩
      refine ⟨h, fun l m => ?_⟩
      match l, m with
      | .idle, _ => rfl
      | .refused _ _, _ => rfl
      | .serving st sh, m => simpa [leaseFits] using k st sh m)
def frameLawDec (s : State) : Decidable (FrameLaw s) :=
  have : DecidablePred Frame.inRange := frameDec
  by unfold FrameLaw; infer_instance
def tagDec (s : State) : Decidable (TagLaw s) := by unfold TagLaw; infer_instance
def tripDec (s : State) : Decidable (TripLaw s) := by unfold TripLaw Stopped; infer_instance
def reportDec (s : State) : Decidable (ReportLaw s) := by unfold ReportLaw; infer_instance
def pathDec (s : State) : Decidable (PathLaw s) := by unfold PathLaw Stream.inRange; infer_instance
def apartDec (t u : Stream) : Decidable (RingsApart t u) := by unfold RingsApart; infer_instance
def ringDec (s : State) : Decidable (RingLaw s) :=
  have := apartDec
  have (i j : Nat) : Decidable (i ≠ j → (s.stream i).enabled = true → (s.stream j).enabled = true →
      RingsApart (s.stream i) (s.stream j) ∧ (s.stream i).source ≠ (s.stream j).source) := inferInstance
  by unfold RingLaw; infer_instance
def trackerDec (s : State) (stream : Nat) : Decidable (TrackerFree s stream) := by unfold TrackerFree; infer_instance
/-- A head could be accepted, as a computation. -/
def acceptableB (s : State) (request : Request) : Bool :=
  decide (s.path.entries.length < 96) &&
    match request with
    | .write _ => true
    | .read r =>
      match s.ringClass r.address r.length with
      | .ring p => decide ((s.stream p.stream).source = r.source → @decide _ (trackerDec s p.stream) = true)
      | .outside => true
      | .span => true

theorem acceptable_iff (s : State) (request : Request) : Acceptable s request ↔ acceptableB s request = true := by
  unfold Acceptable acceptableB
  cases request with
  | write w => simp
  | read r =>
    simp only [Bool.and_eq_true, decide_eq_true_eq]
    refine and_congr_right fun _ => ⟨fun a => ?_, fun a r' p e h b => ?_⟩
    · cases h : s.ringClass r.address r.length with
      | ring p => exact decide_eq_true (fun b => @decide_eq_true _ (_) (a r p rfl h b))
      | outside => rfl
      | span => rfl
    · cases e
      rw [h] at a
      exact @of_decide_eq_true _ (_) (of_decide_eq_true a b)

def waitDec (s : State) : Decidable (WaitLaw s) :=
  have : DecidablePred (fun h : Head => Acceptable s h.request) :=
    fun h => decidable_of_iff _ (acceptable_iff s h.request).symm
  by unfold WaitLaw; infer_instance
def queueDec (s : State) : Decidable (QueueLaw s) := by unfold QueueLaw; infer_instance
def clockDec (s : State) : Decidable (ClockLaw s) :=
  have : DecidablePred Clock.disciplined := disciplineDec
  by unfold ClockLaw; infer_instance

/-- Every law of the model holds of a state. -/
def Lawful (s : State) : Prop :=
  KeyTableLaw s ∧ RevocationLaw s ∧ LeaseLaw s ∧ FrameLaw s ∧ TagLaw s ∧ TripLaw s ∧ ReportLaw s ∧ PathLaw s
    ∧ QueueLaw s ∧ ClockLaw s ∧ RingLaw s ∧ WaitLaw s

/-- The laws as one computation. -/
def lawful (s : State) : Bool :=
  @decide _ (lawDec s) && @decide _ (revocationDec s) && @decide _ (leaseDec s) && @decide _ (frameLawDec s)
    && @decide _ (tagDec s) && @decide _ (tripDec s) && @decide _ (reportDec s) && @decide _ (pathDec s)
    && @decide _ (queueDec s) && @decide _ (clockDec s) && @decide _ (ringDec s) && @decide _ (waitDec s)

theorem laws_of {s : State} (h : lawful s = true) : Lawful s := by
  simp only [lawful, Bool.and_eq_true, decide_eq_true_eq] at h
  simpa only [Lawful, and_assoc] using h

/-! ## Witnesses: resets, supplies and trips -/

/-- The part without VMAIN and without its standby domain. -/
def lost : State := unpowered.setPower { main := .off, markIntact := false }

/-- A part that serves: key 7 is in use by a RUNNING lease of stream 2. -/
def serving : State := keyed.setLease 2 (.serving .running show5)

def clocked (c : Clock) : State := running.setClock c

theorem test_witness_EmptyQueuePassesTime :
    State.reset.pending = [] ∧ State.reset.clock.state = .unset ∧ lost.pending = [] ∧ lost.power.markIntact = false
      ∧ (let s := clocked { running.clock with reading := 65536 * 1000 + 65534 }
         s.pending = [] ∧ s.power.markIntact = true ∧ s.clock.state ≠ .unset ∧ s.clock.hold = false
           ∧ s.clock.remainder = 0 ∧ s.clock.reading ≤ 2 ^ 56 - 1 ∧ s.clock.reading % 65536 + 1 < 65536) := by
  decide +kernel

theorem test_witness_CommandsAnswer :
    (Instr.responseReturn 1 16).wellFormed = true ∧ (Instr.responseReturn 1 17).wellFormed = false := by decide +kernel

theorem test_witness_WarmResetResults :
    running.power.main = .up ∧ inReset.power.main = .inReset ∧ unpowered.power.main = .off := by decide +kernel

theorem test_witness_ColdPowerUpResults :
    running.power.main ≠ .off ∧ (unpowered.power.main = .off ∧ unpowered.power.markIntact = true)
      ∧ lost.power.main = .off ∧ lost.power.markIntact = false := by decide +kernel

theorem test_witness_SupplyLossResults : unpowered.power.main = .off ∧ running.power.main ≠ .off := by
  decide +kernel

/-- A burst of stream 2 past its decision, its first beat returned, with one PLAIN beat and one fill beat left. -/
def pastDecision (tag : Nat) (state : TrackerState) : Entry :=
  { entryOf tag
      (.cipher { track 3 with count := 3, state := state
                              inputs := if state = .decided then some { key := 5, frameIndex := 3 } else none })
      (if state = .returning then .composed else .atMemory) 3
      [{ data := 1, response := .okay, plain := false }, { data := 2, response := .okay, plain := true },
       { data := 0xFF, response := .okay, plain := false }] with returned := if state = .returning then 1 else 0 }

/-- A part that serves in every way: bursts DECIDED, IN_LANE and RETURNING, leases RUNNING, HELD and REFUSED, two WITHDRAWN
keys, one with a PENDING revocation past its retain-until and one short of it, a LISTED revocation, and a queue of a TIME parcel and another. -/
def striking (verifier : Verifier) : State :=
  let leased := (((serving.setLease 3 (.serving (.held .running 900) { show5 with keys := [8] })).setLease 4
    (.refused 6 { cause := .noKey, wanting := 9, generation := 0 })).setKey 1
      (some { key7 with keyId := 8, state := .withdrawn })).setKey 2
        (some { key7 with keyId := 10, state := .withdrawn })
  let listed := leased.setRevocations
    [⟨10, 2, 1000, .pending⟩, ⟨30, 4, 1500, .listed⟩, ⟨8, 2, 6800, .pending⟩]
  let burst := withEntries listed
    [pastDecision 40 .decided, pastDecision 41 .inLane, pastDecision 42 .returning,
     entryOf 43 .passThrough .atMemory 1 []]
  (burst.setEngine
    { burst.engine with lanes := [some { tag := 41, stream := 2, key := 5, frameIndex := 3, beats := [⟨1, 0, 2⟩] }, none,
                                  none, none] }).setIntake
    { commits := [], queue := [{ cell := 4, fields := ⟨1, 4, 48⟩ }, { cell := 5, fields := ⟨2, 1, 96⟩ }]
      verifier := verifier }

/-- The verifier before a trip, with its read at memory or waiting: of another kind in READING (before and after beat 0)
and CHECKING, of kind TIME, and with an owner or DRAINING. -/
def stricken : List State :=
  let withRead (waits : Bool) (verifier : Verifier) : State :=
    let read : InternalRequest := { tag := 60, kind := .verifierRead 6 0 16 }
    (striking verifier).setInternal
      { waiting := if waits then [read] else [], grants := 0, atMemory := if waits then [] else [read] }
  [withRead true (.reading 6 ⟨3, 1, 96⟩ []), withRead false (.reading 6 ⟨3, 1, 96⟩ []),
   withRead false (.reading 6 ⟨3, 4, 48⟩ [parcelHead 1 96 8]), withRead true (.reading 6 ⟨3, 4, 48⟩ []),
   striking (.checking 6 [parcelHead 1 96 8]), striking (.checking 6 (timeParcel 0 0 0)),
   striking (.withOwner 6 (timeParcel 0 0 0)), withRead false .draining]

theorem test_witness_TamperTripsThePart :
    (∀ s ∈ serving :: stricken, lawful s = true ∧ s.power.main = .up ∧ s.power.markIntact = true
      ∧ s.trip = { latch := .normal, tamper := .deasserted })
      ∧ stricken.map (fun s => (s.verifierAtMemory, s.tripRefused.map (fun p => p.1)))
        = [(false, [6, 5]), (true, [6, 5]), (true, [6, 5]), (false, [5]), (false, [6, 5]), (false, [5]), (false, [5]),
           (true, [5])]
      ∧ (striking .draining).timeEntries.map (fun e => e.cell) = [4] ∧ serving.intake.verifier = .idle := by
  and_intros <;> decide +kernel

/-- R109, R156: a trip makes fill of each PLAIN beat not yet returned, leaves every other beat, and settles the list. -/
theorem test_trip_erases_plaintext :
    ((after (striking .draining) .tamperAssert).path.entries.map (fun e =>
        (e.trackerState, e.response.map (fun b => (b.data, b.plain)))))
      = [(some .returning, [(1, false), (0xFF, false), (0xFF, false)]),
         (some .returning, [(1, false), (0xFF, false), (0xFF, false)]),
         (some .returning, [(1, false), (0xFF, false), (0xFF, false)]), (none, [])]
      ∧ (after (striking .draining) .tamperAssert).revocations = [⟨30, 4, 1500, .listed⟩, ⟨8, 2, 6800, .listed⟩] := by
  decide +kernel

theorem test_witness_TamperOtherwise :
    (unpowered.power.markIntact = true ∧ unpowered.trip.tamper = .deasserted ∧ unpowered.power.main ≠ .up)
      ∧ (tripped.power.markIntact = true ∧ tripped.trip.tamper = .deasserted ∧ tripped.power.main = .up
          ∧ tripped.trip.latch = .tripped .tripTest ∧ lawful tripped = true)
      ∧ lost.power.markIntact = false ∧ (running.setTrip { latch := .normal, tamper := .asserted }).trip.tamper = .asserted
      ∧ running.power.markIntact = true := by decide +kernel

/-- A TRIP_TEST parcel with its body as one value at each end of it. -/
def tripTestParcel (first last : Byte) : List Beat := parcel 5 9 ([first] ++ List.replicate 14 0 ++ [last])

theorem test_witness_TripTestResults :
    let good := withParcel (striking .draining) (tripTestParcel 0 0)
    (Lawful good ∧ good.dispatched .tripTest = some (taken good .tripTest) ∧ good.trip.latch = .normal
        ∧ field (taken good .tripTest).bytes 16 16 = 0)
      ∧ (let s := withParcel tripped (tripTestParcel 0 0)
         s.dispatched .tripTest = some (taken s .tripTest) ∧ s.trip.latch ≠ .normal)
      ∧ [((1, 0) : Byte × Byte), (0, 0x80)].map (fun ends =>
          let s := withParcel running (tripTestParcel ends.1 ends.2)
          (s.dispatched .tripTest == some (taken s .tripTest), s.trip.latch,
            field (taken s .tripTest).bytes 16 16 != 0)) = [(true, .normal, true), (true, .normal, true)] :=
  ⟨⟨laws_of (by decide +kernel), by decide +kernel⟩, by decide +kernel⟩

/-! ## Witnesses: time -/

theorem test_witness_AnnouncementResult :
    SecondDue running 65536
      ∧ SecondDue (clocked { running.clock with reading := 2 ^ 56 - 65537 }) 1
      ∧ SecondDue (clocked { running.clock with reading := 65536 * 1000 + 65535, remainder := 8192
                                                timer := 8 * 65536 - 1 }) 1
      ∧ SecondDue (clocked { running.clock with reading := 65536 * 1000 + 65535, remainder := -8192
                                                timer := 64 * 65536 - 8192 - 1 }) 1
      ∧ SecondDue unpowered 65536 ∧ running.power.main = .up ∧ unpowered.power.main ≠ .up
      ∧ running.leases.length = 16 := by
  unfold SecondDue
  decide +kernel

/-- A part whose next second is a boundary of a key in each state, with a DAILY key that a show has spent, and a list
with entries that the next second passes and others. -/
def bounded : State :=
  (running.setRevocations
      [⟨10, 3, 1001, .pending⟩, ⟨99, 1, 1001, .listed⟩, ⟨98, 1, 1002, .listed⟩, ⟨12, 3, 6800, .pending⟩]).setKeys
    { slots := [some { key7 with state := .waiting, notBefore := 1001 },
                some { key7 with keyId := 8, notAfter := 1001 },
                some { key7 with keyId := 9, state := .closed, notAfter := 1001, grace := 0 },
                some { key7 with keyId := 10, state := .withdrawn, notAfter := 401, grace := 10 },
                some { key7 with keyId := 11, daily := true },
                some { key7 with keyId := 12, state := .withdrawn }]
               ++ List.replicate 122 none
      generation := 0 }

/-- That part with a RUNNING lease that lists the closing key, and one at its hard end that lists a WITHDRAWN one. -/
def closing : State :=
  (bounded.setLease 2 (.serving .running { show5 with keys := [8] })).setLease 3
    (.serving .overrun { show5 with keys := [12], hardEnd := 1001 })

/-- That part with RUNNING leases that list no closing key and are short of their hard ends, and with a PENDING entry
that the next second passes and that stays, its WITHDRAWN key being listed. -/
def unhurried : State :=
  ((bounded.setLease 2 (.serving .running { show5 with keys := [11] })).setLease 3
    (.serving .overrun { show5 with keys := [8, 12], hardEnd := 1002 })).setRevocations
      [⟨12, 3, 1001, .pending⟩, ⟨99, 1, 1001, .listed⟩, ⟨98, 1, 1002, .listed⟩]

/-- R147: an announcement removes the LISTED entries it passes, and no PENDING one. -/
theorem test_announcement_list :
    (after (unhurried.setPower unpowered.power) .announcement).revocations
      = [⟨12, 3, 1001, .pending⟩, ⟨98, 1, 1002, .listed⟩] := by decide +kernel

theorem test_witness_AnnouncementTakesBoundaries :
    (∀ s ∈ [bounded, closing, unhurried],
      lawful s = true ∧ s.power.main = .up ∧ SecondDue s 65536 ∧ s.leases.length = 16
        ∧ (s.heldKeys.map (fun k => k.state)) = [.waiting, .opened, .closed, .withdrawn, .opened, .withdrawn])
      ∧ bounded.leases.all (fun l => !l.busy) = true
      ∧ (unhurried.leases.all (fun l => match l with
          | .serving st sh => decide (1001 < sh.hardEnd) && (st != .running || sh.keys.all (fun id => !unhurried.closing 1001 id))
          | _ => true)) = true
      ∧ (closing.closing 1001 8 = true ∧ closing.anyLists 12 = true ∧ (closing.key 3).map Key.raised = some false
          ∧ (closing.key 4).map Key.raised = some true) := by
  unfold SecondDue
  and_intros <;> decide +kernel

/-- A day that begins with the second, and one that does not. -/
theorem test_witness_AnnouncementTakesBoundaries_day :
    dayNumber 86400 0 = 1 ∧ dayNumber 86399 0 = 0 ∧ dayNumber 1001 1001 = 0
      ∧ (let s := closing.setClock { closing.clock with reading := 65536 * 86399 }
         SecondDue s 65536 ∧ s.clock.day < dayNumber (s.clock.reading / 65536 + 1) s.clock.dayOffset) := by
  unfold SecondDue
  and_intros <;> decide +kernel

theorem test_witness_ForwardStepResult :
    ∀ c ∈ [({ running.clock with remainder := 8192, timer := 8 * 65536 - 100 } : Clock),
           { running.clock with remainder := 5 * 65536, timer := 8 * 65536 - 100, reading := 65536 * 1000 + 60000 },
           { running.clock with remainder := 8192, timer := 8 * 65536 },
           { running.clock with remainder := 8192, reading := 2 ^ 56 - 1 }],
      8192 ≤ (clocked c).clock.remainder ∧ (clocked c).clock.hold = false ∧ SlewDue (clocked c) (8 * 65536) := by
  unfold SlewDue
  decide +kernel

theorem test_witness_ForwardStepResult_over_a_second :
    (let s := clocked { running.clock with remainder := 8192, timer := 8 * 65536 - 100 }
     (after s .slewForwardStep).clock.reading / 65536 = s.clock.reading / 65536)
      ∧ (65536 * 1000 + 60000 + 100 + 8192) / 65536 ≠ (65536 * 1000 + 60000) / 65536
      ∧ (let s := closing.setClock { running.clock with remainder := 8192, timer := 8 * 65536 - 100
                                                        reading := 65536 * 1000 + 60000 }
         lawful s = true ∧ 8192 ≤ s.clock.remainder ∧ s.clock.hold = false ∧ SlewDue s (8 * 65536)) := by
  unfold SlewDue
  and_intros <;> decide +kernel

theorem test_witness_BackwardSlewResults :
    (∀ timer ∈ [64 * 65536 - 8192 - 1, 64 * 65536 - 8192],
      let s := clocked { running.clock with remainder := -8192, timer := timer }
      s.clock.remainder ≤ -8192 ∧ s.clock.hold = false ∧ SlewDue s (64 * 65536 - 8192))
      ∧ ∀ c ∈ [({ running.clock with remainder := -8192, timer := 64 * 65536 - 8192, hold := true } : Clock),
               { running.clock with remainder := -16384, timer := 64 * 65536, hold := true },
               { running.clock with remainder := -16384, timer := 64 * 65536, hold := true, budget := 0 }],
          (clocked c).clock.remainder ≤ -8192 ∧ (clocked c).clock.hold = true ∧ SlewDue (clocked c) (64 * 65536) := by
  unfold SlewDue
  decide +kernel

/-- A state and a parcel that its owner holds. -/
def holds (kind : ParcelKind) (s : State) : Bool := decide (s.dispatched kind = some (taken s kind))

/-- The causes of R33 in their order. -/
def timeCause (s : State) : Option RefusalCause :=
  let b := timeBody (taken s .time).bytes
  if s.trip.latch ≠ .normal ∧ ¬ (b.resync = true ∧ b.clearTrip = true) then some RefusalCause.tripped
  else if 2 ^ 40 ≤ b.seconds ∨ 4 ≤ b.flags ∨ (b.clearTrip = true ∧ b.resync = false) ∨ b.padding ≠ 0 then
    some .badField
  else if s.clock.state = .unset ∧ b.resync = false then some .clockUnset
  else if b.clearTrip = true ∧ s.trip.tamper = .asserted then some .tamperActive
  else none

/-- A state for each way to be refused. -/
def timesRefused : List State :=
  [withParcel tripped (timeParcel 1000 0 1), withParcel running (timeParcel (2 ^ 40) 0 0),
   withParcel running (timeParcel 1000 0 4), withParcel running (timeParcel 1000 0 2),
   withParcel running (parcel 4 9 (leBytes 15 1000 ++ [1])), withParcel (clocked Clock.initial) (timeParcel 1000 0 0),
   withParcel (tripped.setTrip { latch := .tripped .tamper, tamper := .asserted }) (timeParcel 1000 0 3)]

theorem test_witness_TimeRefused :
    (timesRefused.map
        (fun s => (holds .time s, timeCause s)))
      = [(true, some .tripped), (true, some .badField), (true, some .badField), (true, some .badField),
         (true, some .badField), (true, some .clockUnset), (true, some .tamperActive)]
      ∧ ∀ s ∈ timesRefused, ¬ MeetsTamper s (timeBody (taken s .time).bytes) := by
  unfold MeetsTamper
  decide +kernel

def timePassesDec (s : State) (b : TimeBody) : Decidable (TimePasses s b) := by unfold TimePasses; infer_instance

/-- A state holds a TIME parcel that passes its checks; its RESYNC flag; its offset. -/
def weighed (s : State) : Bool × Bool × Int :=
  let b := timeBody (taken s .time).bytes
  (holds .time s && @decide _ (timePassesDec s b), b.resync, ((65536 * b.seconds + b.fraction : Nat) : Int) - s.clock.reading)

theorem test_witness_TimeJumps :
    weighed (withParcel serving (timeParcel 1060 0 0)) = (true, false, 60 * 65536)
      ∧ weighed (withParcel serving (timeParcel (1000 + 86400) 0 0)) = (true, false, 86400 * 65536)
      ∧ (let s := withParcel closing (timeParcel 1060 0 0)
         lawful s = true ∧ weighed s = (true, false, 60 * 65536) ∧ s.leases.length = 16
           ∧ s.closing 1060 8 = true ∧ s.clock.day = dayNumber 1060 s.clock.dayOffset)
      ∧ (let s := withParcel closing (timeParcel (1000 + 86400) 0 0)
         lawful s = true ∧ weighed s = (true, false, 86400 * 65536)
           ∧ s.clock.day < dayNumber (1000 + 86400) s.clock.dayOffset) := by
  and_intros <;> decide +kernel

theorem test_witness_TimeSlews :
    weighed (withParcel serving (timeParcel 994 0 0)) = (true, false, -(8192 * 48))
      ∧ weighed (withParcel serving (timeParcel 1000 0 0)) = (true, false, 0)
      ∧ weighed (withParcel serving (timeParcel 1000 8191 0)) = (true, false, 8191)
      ∧ weighed (withParcel serving (timeParcel 1000 8192 0)) = (true, false, 8192)
      ∧ weighed (withParcel serving (timeParcel 1059 65535 0)) = (true, false, 60 * 65536 - 1)
      ∧ serving.clock.budget = 48 := by decide +kernel

theorem test_witness_TimeSuspects :
    (∀ count ∈ [0, 1, 2], ∀ p ∈ [timeParcel (1000 + 86400) 1 0, timeParcel 993 65535 0],
      let s := withParcel (serving.setClock { serving.clock with suspectCount := count }) p
      (weighed s).1 = true ∧ (weighed s).2.1 = false
        ∧ (86400 * 65536 < (weighed s).2.2 ∨ (weighed s).2.2 < -(8192 * s.clock.budget : Int))
        ∧ s.clock.state = .running ∧ s.leases.length = 16)
      ∧ (let s := striking .draining
         let third := withParcel (s.setClock { s.clock with suspectCount := 2 }) (timeParcel 993 65535 0)
         Lawful third ∧ (weighed third).1 = true ∧ (weighed third).2.2 < -(8192 * third.clock.budget : Int)
           ∧ third.clock.state = .running) :=
  ⟨by decide +kernel, laws_of (by decide +kernel), by decide +kernel⟩

theorem test_witness_TimeSuspects_with_tamper :
    holds .time metByTamper = true ∧ MeetsTamper metByTamper (timeBody (taken metByTamper .time).bytes)
      ∧ TripLaw metByTamper := by
  refine ⟨by decide +kernel, ?_, ?_⟩
  · unfold MeetsTamper; decide +kernel
  · unfold TripLaw Stopped; decide +kernel

theorem test_witness_TimeSuspectsAgain :
    ∀ p ∈ [timeParcel (1000 + 86400) 1 0, timeParcel 993 65535 0],
      let s := withParcel (serving.setClock { serving.clock with state := .suspect, suspectCount := 1 }) p
      (weighed s).1 = true ∧ (weighed s).2.1 = false
        ∧ (86400 * 65536 < (weighed s).2.2 ∨ (weighed s).2.2 < -(8192 * s.clock.budget : Int))
        ∧ s.clock.state = .suspect := by decide +kernel

/-- A part that a RESYNC to 2000 s finds SUSPECT, with HELD leases of each fate and one REFUSED for the clock: resumed
RUNNING, OVERRUN as saved, OVERRUN on key 8, which has run out, and EXPIRED. -/
def held : State :=
  let lease (s : State) (i : Nat) (saved : SavedState) (keys : List KeyId) (hardEnd : Nat) : State :=
    s.setLease i (.serving (.held saved 950) { show5 with keys := keys, hardEnd := hardEnd })
  let s := (bounded.setClock { bounded.clock with state := .suspect }).setLease 6
    (.refused 6 { cause := .clock, wanting := 7, generation := 0 })
  lease (lease (lease (lease s 2 .running [11] 2001) 3 .overrun [8, 12] 2001) 4 .running [11, 8] 2001) 5 .running [12] 2000

theorem test_witness_TimeResyncs :
    (∀ s ∈ [withParcel serving (timeParcel 0 0 1), withParcel running (timeParcel (2 ^ 40 - 1) 65535 3),
           withParcel tripped (timeParcel 2000 0 3), withParcel State.reset (timeParcel 2000 0 3)],
      (weighed s).1 = true ∧ (weighed s).2.1 = true ∧ s.leases.length = 16)
      ∧ (let s := withParcel held (timeParcel 2000 0 1)
         lawful s = true ∧ (weighed s).1 = true ∧ (weighed s).2.1 = true ∧ s.leases.length = 16
           ∧ [7, 8, 11, 12].map (s.runOut 2000) = [false, true, false, false]
           ∧ (s.setClock { s.clock with reading := 65536 * 2000, state := .running }).resumeNotice.leases.take 7
             = [.idle, .idle, .serving .running { show5 with keys := [11], hardEnd := 2001 },
                .serving .overrun { show5 with keys := [8, 12], hardEnd := 2001 },
                .serving .overrun { show5 with keys := [11, 8], hardEnd := 2001 }, .idle, .idle]) := by
  and_intros <;> decide +kernel

theorem test_witness_ClockNeverDecreases :
    let s := withParcel serving (timeParcel 1059 0 0)
    s.clock.reading ≤ 2 ^ 56 - 1 ∧ weighed s = (true, false, 59 * 65536)
      ∧ (∃ t, exec .time s = .next t) ∧ ∃ t, exec .announcement s = .next t :=
  ⟨by decide +kernel, by decide +kernel, ⟨_, rfl⟩, ⟨_, rfl⟩⟩

/-! ## Witnesses: the ports -/

/-- n requests of one kind in the lists. -/
def crowd (n : Nat) (kind : EntryKind) : List Entry := (List.range n).map (fun i => entryOf i kind .atMemory 1 [])

/-- A read as the port receives it, with what READ_ACCEPT's statement asks of it. -/
def readSetting (s : State) (r : ReadRequest) : Bool × Nat × RingClass × Bool :=
  (decide (s.power.main = .up ∧ burstLength r.length = true ∧ s.waits r.source = false), s.path.entries.length,
    s.ringClass r.address r.length,
    match s.ringClass r.address r.length with
    | .ring p => decide ((s.stream p.stream).source = r.source) && @decide _ (trackerDec s p.stream)
    | .outside => false
    | .span => false)

/-- A source with a head that waits. -/
def waiting : State :=
  running.setPath { running.path with heads := [{ request := .read (rd 1 0 1), since := 0 }] }

theorem test_witness_ReadAcceptResults_waiting : waiting.power.main = .up ∧ waiting.waits 1 = true := by decide +kernel
theorem test_witness_ReadAcceptResults_span :
    readSetting (withEntries keyed (crowd 95 .passThrough)) (rd 9 0x10007FFF0 2)
      = (true, 95, .span, false) := by decide +kernel
theorem test_witness_ReadAcceptResults_outside :
    readSetting keyed (rd 0x22 0x100200000 16) = (true, 0, .outside, false) := by
  decide +kernel
theorem test_witness_ReadAcceptResults_not_bound :
    readSetting keyed (rd 0x23 0x1001FFFF0 1) = (true, 0, .ring ⟨2, 3, 32767⟩, false) := by
  decide +kernel
theorem test_witness_ReadAcceptResults_reserved :
    readSetting (withEntries keyed (crowd 46 (.cipher { track 0 with stream := 3 }) ++ crowd 1 (.cipher (track 0))))
      (rd 0x22 0x100000000 1) = (true, 47, .ring ⟨2, 0, 0⟩, true) := by decide +kernel
theorem test_witness_ReadAcceptResults_borrowed :
    readSetting (withEntries keyed (crowd 47 (.cipher (track 0)))) (rd 0x22 0x100000000 1)
      = (true, 47, .ring ⟨2, 0, 0⟩, true) := by decide +kernel
theorem test_witness_ReadAcceptResults_no_tracker :
    readSetting (withEntries keyed (crowd 48 (.cipher (track 0)))) (rd 0x22 0x100000000 1)
      = (true, 48, .ring ⟨2, 0, 0⟩, false) := by decide +kernel
theorem test_witness_ReadAcceptResults_no_place :
    readSetting (withEntries keyed (crowd 96 .passThrough)) (rd 1 0 1)
      = (true, 96, .outside, false) := by decide +kernel

/-- A burst touches no parcel cell. -/
def cellFree (s : State) (w : WriteRequest) : Bool :=
  (List.range w.beats.length).all (fun k => (List.range 32).all (fun cell => !s.inCell w.address k cell))

theorem cellFree_spec {s : State} {w : WriteRequest} (h : cellFree s w = true) :
    ∀ k < w.beats.length, ∀ cell, s.inCell w.address k cell = false := by
  intro k hk cell
  simp only [cellFree, List.all_eq_true, List.mem_range, Bool.not_eq_true'] at h
  by_cases c : cell < 32
  · exact h k hk cell c
  · simp [State.inCell, c]

/-- What the statements about write bursts ask: the port, the laws and room in the lists. -/
def writeSetting (s : State) (w : WriteRequest) : Bool :=
  lawful s && decide (s.power.main = .up ∧ burstLength w.beats.length = true ∧ s.waits w.source = false
    ∧ s.path.entries.length < 96)

theorem test_witness_WriteAcceptResults :
    (∀ c ∈ [(running, wr 1 0x8000 [fullBeat 0, fullBeat 511]), (keyed, wr 1 0x100200000 (List.replicate 16 (fullBeat 1)))],
      writeSetting c.1 c.2 = true ∧ c.1.ringClass c.2.address c.2.beats.length = .outside ∧ cellFree c.1 c.2 = true)
      ∧ [wr 1 0x8000 [fullBeat 0, fullBeat 511], wr 1 0x8010 [{ data := 600, strobes := 3 }],
          wr 1 0x8010 [{ data := 511, strobes := 1 }], wr 1 0x8020 [fullBeat 1]].map (fun w =>
            running.pendingConsumer w.address w.beats) = [some 511, some 600, none, none]
      ∧ (withEntries running (crowd 96 .passThrough)).path.entries.length = 96
      ∧ (withEntries running (crowd 96 .passThrough)).waits 1 = false
      ∧ waiting.waits 1 = true := by
  and_intros <;> decide +kernel

/-- A write of one beat at a beat offset of slot 1 of stream 2, whose record stands in a state. -/
def frameSetting (f : FrameState) (source : SourceId) (offset : Nat) (strobes : Strobes) : Bool :=
  let s := keyed.setFrame 2 1 { state := f, generation := 4 }
  let w := wr source (BitVec.ofNat 36 (0x100080000 + 16 * offset)) [{ data := 7, strobes := strobes }]
  writeSetting s w && cellFree s w && decide (s.ringClass w.address 1 = .ring ⟨2, 1, offset⟩ ∧ (s.frame 2 1).state = f)

/-- The 64 bytes of a good frame header: that of the tests. -/
def headerBytes : List Byte :=
  leBytes 2 0xA51C ++ [1, 0] ++ leBytes 2 5 ++ leBytes 4 7 ++ leBytes 4 9 ++ leBytes 4 3 ++ leBytes 4 32 ++ leBytes 42 0

def filling (fill : Nat) : FrameState := .filling 0x10 fill header7
def ready : FrameState := .ready 0x10 header7
def broken : FrameState := .broken .span none none

theorem test_witness_FrameBeatResults_before_the_record :
    frameSetting ready 0x10 5 0 = true ∧ frameSetting ready 0x10 0 0xFFFF = true
      ∧ frameSetting broken 0x10 1 0xFFFF = true ∧ frameSetting broken 0x10 0 1 = true := by decide +kernel
theorem test_witness_FrameBeatResults_vacant :
    frameSetting .vacant 0x10 1 0xFFFF = true ∧ frameSetting .vacant 0x10 0 0x7FFF = true := by decide +kernel
theorem test_witness_FrameBeatResults_ready :
    4 + header7.payloadBeats = 6 ∧ frameSetting ready 0x10 6 1 = true ∧ frameSetting ready 0x10 5 1 = true
      ∧ frameSetting ready 0x10 0 1 = true := by decide +kernel
theorem test_witness_FrameBeatResults_filling :
    frameSetting (filling 5) 0x11 6 1 = true ∧ frameSetting (filling 5) 0x11 5 0xFFFF = true
      ∧ frameSetting (filling 5) 0x10 5 0xFFFE = true ∧ frameSetting (filling 5) 0x10 4 0xFFFF = true
      ∧ frameSetting (filling 4) 0x10 4 0xFFFF = true ∧ frameSetting (filling 5) 0x10 5 0xFFFF = true := by
  decide +kernel
theorem test_witness_FrameBeatResults_header :
    frameSetting (.header 0x10 1 [7]) 0x11 1 0xFFFF = true ∧ frameSetting (.header 0x10 1 [7]) 0x10 1 1 = true
      ∧ frameSetting (.header 0x10 1 [7]) 0x10 2 0xFFFF = true ∧ frameSetting (.header 0x10 1 [7]) 0x10 1 0xFFFF = true
      ∧ frameSetting (.header 0x10 2 [7, 7]) 0x10 2 0xFFFF = true
      ∧ frameSetting (.header 0x10 3 [7, 7, 7]) 0x10 3 0xFFFF = true := by decide +kernel

/-- R82: a good header in a slot of 512 KiB, and the first failing test of headers that are not. -/
theorem test_witness_FrameBeatResults_fourth_header_beat :
    (headerTests headerBytes (2 ^ (19 + (keyed.stream 2).sizeCode))).findIdx? id = none
      ∧ headerFields headerBytes = header7
      ∧ toBeats headerBytes 4 = (toBeats headerBytes 4).take 3 ++ [(toBeats headerBytes 4).getLastD 0]
      ∧ bytesOf (toBeats headerBytes 4) = headerBytes
      ∧ [headerBytes.set 0 0x1D, headerBytes.set 2 2, headerBytes.set 3 2, headerBytes.set 4 0, headerBytes.set 18 33,
          headerBytes.set 18 0, headerBytes.set 20 8, headerBytes.set 63 1].map (fun h =>
            (headerTests h 524288).findIdx? id)
        = [some 0, some 1, some 2, some 3, some 4, some 4, some 4, some 5] := by decide +kernel

/-- A ring burst of more than one beat, and the entries of the lists it joins. -/
def burstSpanning (s : State) (address : BitVec 36) (n : Nat) : Bool × Nat × RingClass :=
  let w := wr 0x10 address (List.replicate n (fullBeat 7))
  (writeSetting s w && cellFree s w, s.path.entries.length, s.ringClass address n)

theorem test_witness_FrameBeatResults_burst :
    [burstSpanning (withEntries keyed (crowd 95 .passThrough)) 0x100080000 16, burstSpanning keyed 0x1000FFFE0 2]
      = [(true, 95, .ring ⟨2, 1, 0⟩), (true, 0, .ring ⟨2, 1, 32766⟩)] := by decide +kernel

/-- Bursts from slot 1 to slot 2, into the ring, out of it, and from slot 0 into one that is BROKEN. -/
theorem test_witness_FrameBeatResults_span :
    [burstSpanning (withEntries keyed (crowd 95 .passThrough)) 0x1000FFFF0 2, burstSpanning keyed 0x0FFFFFFF0 2,
        burstSpanning keyed 0x1001FFFF0 2,
        burstSpanning (keyed.setFrame 2 1 { state := broken, generation := 4 }) 0x10007FFF0 16]
      = [(true, 95, .span), (true, 0, .span), (true, 0, .span), (true, 0, .span)] := by decide +kernel

/-- A part whose intake unit stands somewhere. -/
def intakeAt (x : Intake) : State := running.setIntake x

/-- Cell 4 queued, cell 5 under verification, cell 6 of a pending commit. -/
def busyIntake : Intake :=
  { commits := [{ cell := 6, tag := 0, source := 1, fields := ⟨3, 4, 48⟩, okay := false }]
    queue := [{ cell := 4, fields := ⟨1, 4, 48⟩ }], verifier := .checking 5 (timeParcel 0 0 0) }

/-- The verifier reads cell 5, with its read at memory or still waiting. -/
def readingCell (waits : Bool) : State :=
  let read : InternalRequest := { tag := 8, kind := .verifierRead 5 0 16 }
  (intakeAt { busyIntake with verifier := .reading 5 ⟨2, 4, 48⟩ [] }).setInternal
    { waiting := if waits then [read] else [], grants := 0, atMemory := if waits then [] else [read] }

/-- What the statement about writes of cells asks, and the cells that the burst writes and commits. -/
def cellSetting (s : State) (address : BitVec 36) (beats : List WriteBeat) : Bool × List Nat × List Nat :=
  let w := wr 1 address beats
  (writeSetting s w && decide (s.ringClass address beats.length = .outside),
    (List.range 32).filter (s.writesCell w), (s.commitsOf w 0).map (fun c => c.cell))

theorem test_witness_CellWriteResults :
    (intakeAt busyIntake).intake.heldCells = [6, 4, 5]
      ∧ [((0, [fullBeat 7]) : BitVec 36 × List WriteBeat), (0x7C00, [fullBeat 7]), (0x7FF0, [fullBeat 7, fullBeat 7]),
          (0x13F0, [fullBeat 7, fullBeat 7]), (0x1410, [{ data := 7, strobes := 1 }]),
          (0x1800, [{ data := 7, strobes := 0xFFFE }]), (0x1400, [{ data := 7, strobes := 0 }])].map
            (fun w => cellSetting (intakeAt busyIntake) w.1 w.2)
        = [(true, [0], [0]), (true, [31], [31]), (true, [31], []), (true, [4, 5], [5]), (true, [5], []), (true, [6], []),
           (true, [], [])] := by
  and_intros <;> decide +kernel

/-- A ring that ends where the intake window begins, with a frame in its last slot and busy cells. -/
def edge : State :=
  { ((withStream (intakeAt { busyIntake with queue := [{ cell := 0, fields := ⟨1, 4, 48⟩ }] }) 5
        { stream2 with base := 2 ^ 30 - 4 * 2 ^ 19, source := 0x30 }).setFrame 5 3 { state := ready, generation := 4 }) with
    intakeSel := 1 }

/-- A burst over the end of that ring into cell 0, into a READY slot and into one that is BROKEN. -/
theorem test_witness_CellWriteResults_edge :
    (∀ s ∈ [edge, edge.setFrame 5 3 { state := broken, generation := 4 }],
      let w := wr 1 (BitVec.ofNat 36 (2 ^ 30 - 16)) [fullBeat 7, fullBeat 7]
      writeSetting s w = true ∧ s.ringClass w.address 2 = .span ∧ cellFree s w = false
        ∧ (List.range 32).filter (s.writesCell w) = [0] ∧ (s.commitsOf w 0).map (fun c => c.cell) = [0]
        ∧ (s.tornRecords w).length = 1)
      ∧ (after edge (.writeAccept (wr 1 (BitVec.ofNat 36 (2 ^ 30 - 16)) [fullBeat 7, fullBeat 7]))).report.staging.map
          (fun r => (r.kind, r.cause)) = [(.frameBroken, 7), (.parcelRefused, 5)] := by
  and_intros <;> decide +kernel

theorem test_witness_CellWriteResults_reading :
    [true, false].map (fun waits =>
        (cellSetting (readingCell waits) 0x1410 [fullBeat 7], (readingCell waits).verifierAtMemory,
          (readingCell waits).intake.verifier.cell))
      = [((true, [5], []), false, some 5), ((true, [5], []), true, some 5)] := by decide +kernel

/-- Where the memory-port arbiter stands once the report writer has made its next request. -/
def portSetting (s : State) : Bool × Option Nat × List InternalKind × Nat :=
  let p := s.presentReport
  (decide (s.power.main = .up), (p.path.entries.find? (fun e => decide (e.state = .issueWait))).map (fun e => e.tag),
    p.internal.waiting.map (fun r => r.kind), p.internal.grants)

/-- One server-side request in ISSUE_WAIT, and the report writer's requests as they are due. -/
def oneWaits (grants : Nat) : State :=
  (withEntries running [entryOf 5 .passThrough .issueWait 1 []]).setInternal
    { waiting := [{ tag := 8, kind := .statusWrite }], grants := grants, atMemory := [] }

/-- A read of the verifier waits beside a server-side write, or alone. -/
def readWaits (grants : Nat) (entries : List Entry) : State :=
  (withEntries running entries).setInternal
    { waiting := [{ tag := 8, kind := .verifierRead 3 16 4 }], grants := grants, atMemory := [] }

def statusDue : State := running.setReport { running.report with statusPending := true }
def identityDue : State := running.setReport { running.report with identityPending := true }
def recordDue : State := running.setReport { running.report with staging := [firstResetDone], producer := 511, consumer := 1 }

theorem test_witness_PortGrantResults :
    portSetting (withEntries running [entryOf 5 .passThrough .issueWait 1 []]) = (true, some 5, [], 0)
      ∧ portSetting (oneWaits 15) = (true, some 5, [.statusWrite], 15)
      ∧ portSetting (oneWaits 16) = (true, some 5, [.statusWrite], 16)
      ∧ portSetting statusDue = (true, none, [.statusWrite], 0) ∧ portSetting running = (true, none, [], 0)
      ∧ portSetting identityDue = (true, none, [.identityWrite], 0)
      ∧ portSetting recordDue = (true, none, [.recordWrite], 0)
      ∧ portSetting (readWaits 3 []) = (true, none, [.verifierRead 3 16 4], 3)
      ∧ portSetting ((readWaits 16 []).setInternal
          { waiting := [{ tag := 8, kind := .verifierRead 3 16 4 }, { tag := 9, kind := .statusWrite }], grants := 16
            atMemory := [] }) = (true, none, [.verifierRead 3 16 4, .statusWrite], 16)
      ∧ portSetting (readWaits 16 [entryOf 5 (.write { beats := [fullBeat 1], kept := none, cells := [], consumer := none })
          .issueWait 1 []]) = (true, some 5, [.verifierRead 3 16 4], 16) := by
  and_intros <;> decide +kernel

theorem test_witness_ReportWritesIssue :
    portSetting identityDue = (true, none, [.identityWrite], 0)
      ∧ portSetting statusDue = (true, none, [.statusWrite], 0)
      ∧ portSetting (oneWaits 16) = (true, some 5, [.statusWrite], 16)
      ∧ portSetting (running.setInternal
          { waiting := [{ tag := 8, kind := .statusWrite }, { tag := 9, kind := .verifierRead 3 16 4 }], grants := 2
            atMemory := [] }) = (true, none, [.statusWrite, .verifierRead 3 16 4], 2)
      ∧ portSetting recordDue = (true, none, [.recordWrite], 0) ∧ recordDue.report.staging = [firstResetDone] := by
  and_intros <;> decide +kernel

/-- What the report writer's choice depends on. -/
def writerSetting (s : State) : Bool × Bool × Bool × Bool × Bool × Nat :=
  (decide (s.power.main = .up), (s.internal.waiting ++ s.internal.atMemory).any (fun r => r.kind.ofReport),
    s.report.identityPending, s.report.statusPending, decide (s.report.staging = []),
    (s.report.producer + 512 - s.report.consumer) % 512)

theorem test_witness_ReportWriterChooses :
    unpowered.power.main ≠ .up ∧ writerSetting (atMemory running 8 .recordWrite) = (true, true, false, false, true, 0)
      ∧ writerSetting identityDue = (true, false, true, false, true, 0)
      ∧ writerSetting statusDue = (true, false, false, true, true, 0)
      ∧ writerSetting recordDue = (true, false, false, false, false, 510)
      ∧ writerSetting (recordDue.setReport { recordDue.report with consumer := 0 }) = (true, false, false, false, false, 511)
      ∧ writerSetting running = (true, false, false, false, true, 0) := by
  and_intros <;> decide +kernel

/-- A pass-through read of 4 beats with some already answered. -/
def passing (answered : List OutBeat) (returned : Nat) : State :=
  withEntries running [{ entryOf 5 .passThrough .atMemory 4 answered with returned := returned }]

theorem test_witness_PassThroughDataResult :
    [(passing [] 0, 3), (passing [okayBeat 1] 0, 3)].map (fun w =>
        (decide (w.1.power.main = .up), (w.1.entry 5).map (fun e => (e.kind, e.state, e.response.length + w.2, e.length))))
      = [(true, some (.passThrough, .atMemory, 3, 4)), (true, some (.passThrough, .atMemory, 4, 4))] := by
  decide +kernel

/-- A composed read of 2 beats with some already returned. -/
def composedRead (returned : Nat) : State :=
  withEntries running [{ entryOf 5 .passThrough .composed 2 [okayBeat 1, okayBeat 2] with returned := returned }]

/-- The oldest response of source 0x22: its state, whether it is a pass-through, its parts. -/
def oldestResponse (s : State) : Option (EntryState × EntryKind × Nat × Nat × Nat) :=
  (s.path.entries.find? (fun f => decide (f.source = 0x22))).map (fun e =>
    (e.state, e.kind, e.response.length, e.returned, e.responseLength))

theorem test_witness_ResponseReturnResults :
    oldestResponse (withEntries running [entryOf 5 .passThrough .issueWait 1 []]) = some (.issueWait, .passThrough, 0, 0, 1)
      ∧ oldestResponse (reading running) = some (.atMemory, .cipher (track 3), 0, 0, 4)
      ∧ oldestResponse (passing [okayBeat 1] 1) = some (.atMemory, .passThrough, 1, 1, 4)
      ∧ oldestResponse (composedRead 0) = some (.composed, .passThrough, 2, 0, 2)
      ∧ oldestResponse (composedRead 1) = some (.composed, .passThrough, 2, 1, 2)
      ∧ oldestResponse (passing [okayBeat 1] 0) = some (.atMemory, .passThrough, 1, 0, 4)
      ∧ running.power.main = .up ∧ running.path.heads = [] := by
  and_intros <;> decide +kernel

/-- Full lists with 48 trackers in use: the oldest response of source 0x22 is composed, its own head wants a tracker,
and source 1 has a pass-through head with a request behind it. -/
def crowded : State :=
  let full := withEntries keyed (entryOf 60 .passThrough .composed 1 [okayBeat 1] :: crowd 48 (.cipher (track 0))
    ++ ((List.range 47).map (fun i => entryOf (i + 48) .passThrough .atMemory 1 [])).map (fun e =>
      if e.tag = 60 then { e with tag := 99 } else e))
  full.setPath { full.path with
    heads := [{ request := .read (rd 0x22 0x100000000 1), since := 0 }, { request := .read (rd 1 0x50000 1), since := 1 }]
    behind := [.read (rd 1 0x60000 1)], epoch := 3 }

/-- What is left of it once the oldest response has gone. -/
def eased : State :=
  crowded.setPath { crowded.path with entries := crowded.path.entries.filter (fun f => decide (f.tag ≠ 60)) }

theorem test_witness_ResponseReturnResults_heads :
    lawful crowded = true ∧ crowded.power.main = .up
      ∧ oldestResponse crowded = some (.composed, .passThrough, 1, 0, 1)
      ∧ eased.path.entries.length = 95 ∧ crowded.path.heads.map (fun h => acceptableB eased h.request) = [false, true]
      ∧ (offer (.read (rd 1 0x50000 1))).wellFormed = true := by
  and_intros <;> decide +kernel

/-! ## Witnesses: decisions -/

theorem awaits_reading (s : State) : Awaits (reading s) 40 (track 3) 4 := ⟨_, rfl, rfl, rfl, rfl, rfl⟩

/-- The frame of a tracker passes tests 1 to 4 with the header of the tests. -/
def readableBy (s : State) (t : Tracker) (h : Header) : Bool :=
  decide (s.trip.latch = .normal ∧ (s.stream t.stream).generation = t.streamGeneration
    ∧ (s.frame t.stream t.slot).generation = t.slotGeneration ∧ (s.frame t.stream t.slot).state = .ready 0x10 h)

theorem readable_of {s : State} {t : Tracker} {h : Header} (r : readableBy s t h = true) : Readable s t h := by
  have r := of_decide_eq_true r
  exact ⟨r.1, r.2.1, r.2.2.1, 0x10, r.2.2.2⟩

/-- The frame of a tracker fails one of tests 1 to 4. -/
def unreadableBy (s : State) (t : Tracker) : Bool :=
  decide (s.trip.latch ≠ .normal ∨ (s.stream t.stream).generation ≠ t.streamGeneration
    ∨ (s.frame t.stream t.slot).generation ≠ t.slotGeneration ∨ (s.frame t.stream t.slot).state = .vacant)

theorem unreadable_of {s : State} {t : Tracker} (r : unreadableBy s t = true) : ¬ ∃ h, Readable s t h := by
  rintro ⟨h, a, b, c, w, d⟩
  rcases of_decide_eq_true r with e | e | e | e
  · exact e a
  · exact e b
  · exact e c
  · rw [d] at e; cases e

/-- The last of its beats answered SLVERR. -/
def badData : List ReadBeat := okays [1, 2, 3] ++ [{ data := 4, response := .slverr }]

theorem allOkay_data4 : AllOkay data4 := by unfold AllOkay; decide +kernel

theorem test_witness_DecisionEndsEarly :
    Awaits (reading keyed) 40 (track 3) badData.length ∧ (∃ b ∈ badData, b.response = .slverr)
      ∧ AllOkay data4 ∧ burstLength data4.length = true ∧ burstLength badData.length = true
      ∧ (reading keyed).power.main = .up
      ∧ ∀ s ∈ [keyed.setTrip tripped.trip, withStream keyed 2 { stream2 with generation := 2 },
               keyed.setFrame 2 1 { state := .ready 0x10 header7, generation := 5 },
               keyed.setFrame 2 1 { state := .vacant, generation := 4 }],
          Awaits (reading s) 40 (track 3) data4.length ∧ ¬ ∃ h, Readable (reading s) (track 3) h :=
  ⟨awaits_reading _, by decide +kernel, allOkay_data4, by decide +kernel, by decide +kernel, by decide +kernel, by
    intro s h
    refine ⟨awaits_reading s, unreadable_of ?_⟩
    revert s
    decide +kernel⟩

/-- Bursts of a readable frame without a payload beat: header beats alone, and beats beyond the payload. -/
theorem test_witness_DecisionEndsEarly_no_payload :
    ∀ first ∈ [0, 6],
      let s := withEntries keyed [entryOf 40 (.cipher (track first)) .atMemory 4 []]
      Awaits s 40 (track first) data4.length ∧ Readable s (track first) header7
        ∧ payloadCount header7 first data4.length = 0 ∧ s.power.main = .up := by
  intro first _
  exact ⟨⟨_, rfl, rfl, rfl, rfl, rfl⟩, readable_of rfl, by revert first; decide +kernel, rfl⟩

theorem test_witness_ClearFrameIsRaw :
    let h := { header7 with clear := true, tag := 0 }
    let s := reading (keyed.setFrame 2 1 { state := .ready 0x10 h, generation := 4 })
    Awaits s 40 (track 3) data4.length ∧ Readable s (track 3) h ∧ h.clear = true ∧ AllOkay data4
      ∧ burstLength data4.length = true ∧ s.power.main = .up :=
  ⟨awaits_reading _, readable_of (by decide +kernel), rfl, allOkay_data4, by decide +kernel, by decide +kernel⟩

/-- The first condition of R56 not met by a payload burst of the tests' frame. -/
def openingCause (s : State) : Option LeaseCause :=
  if s.clock.state ≠ .running then some LeaseCause.clock
  else match s.findKey header7.keyId with
    | none => some .noKey
    | some (_, k) =>
      if k.state = .waiting then some .keyWaiting
      else if k.state = .closed then some .keyClosed
      else if k.state = .withdrawn then some .keyWithdrawn
      else if inSet k.auditoriums 2 = false then some .auditorium
      else if header7.feature ≠ k.feature then some .feature
      else if k.allowance.any (fun a => decide (a.current = 0)) then some .allowance
      else none

/-- What the statements about payload bursts ask of a state and the tests' burst, but for its lease and key. -/
def burstSetting (s : State) : Bool :=
  decide (s.power.main = .up ∧ burstLength data4.length = true ∧ header7.clear = false
    ∧ payloadCount header7 (track 3).firstOffset data4.length = 2 ∧ (track 3).stream < 16 ∧ s.leases.length = 16)
    && readableBy s (track 3) header7

/-- The boundaries of a payload of two beats, at offsets 4 and 5. -/
theorem test_payload_count :
    [(0, 4), (0, 5), (5, 16), (6, 16), (5, 1)].map (fun b => payloadCount header7 b.1 b.2) = [0, 1, 1, 0, 1] := by
  decide +kernel

def checking : State := withStream keyed 2 { stream2 with mode := .check }

def withKey (k : Key) : State := keyed.setKey 0 (some k)

/-- Leases that a burst of the tests' show may open on: IDLE, REFUSED for another show, and REFUSED for this one under
another generation. -/
def opening : List Lease :=
  [.idle, .refused 6 { cause := .clock, wanting := 7, generation := 0 },
   .refused 5 { cause := .noKey, wanting := 7, generation := 9 }]

theorem mayOpen_opening (s : State) (l : Lease) (m : l ∈ opening) (h : s.lease 2 = l) (g : s.keys.generation = 0) :
    MayOpen s 2 5 := by
  simp only [opening, List.mem_cons, List.not_mem_nil, or_false] at m
  unfold MayOpen
  rw [h]
  rcases m with rfl | rfl | rfl
  · exact .inl rfl
  · exact .inr ⟨6, _, rfl, .inl (by decide)⟩
  · exact .inr ⟨5, _, rfl, .inr (by rw [g]; decide)⟩

/-- A lease of another show that lists the tests' key and a WITHDRAWN one. -/
def other6 : Lease := .serving .running { show5 with tag := 6, keys := [7, 8] }

/-- A part whose stream 2 has a lease, under key 7 and a WITHDRAWN key 8. -/
def leased (l : Lease) (k : Key) : State :=
  reading ((((withKey k).setKey 1 (some { key7 with keyId := 8, state := .withdrawn })).setLease 2 l))

theorem test_witness_DecisionOpensLease :
    (∀ s, Awaits (reading s) 40 (track 3) data4.length) ∧ AllOkay data4
      ∧ ∀ w ∈ [(keyed, key7), (checking, key7), (withKey { key7 with allowance := none }, { key7 with allowance := none }),
               (withKey { key7 with allowance := some { base := 1, current := 1 } },
                 { key7 with allowance := some { base := 1, current := 1 } })],
          ∀ l ∈ other6 :: opening,
          let s := reading (w.1.setLease 2 l)
          let k := w.2
          burstSetting s = true ∧ s.lease 2 = l ∧ s.keys.generation = 0 ∧ s.clock.state = .running
            ∧ s.findKey header7.keyId = some (0, k)
            ∧ k.state = .opened ∧ inSet k.auditoriums 2 = true ∧ header7.feature = k.feature
            ∧ k.allowance.any (fun a => decide (a.current = 0)) = false :=
  ⟨awaits_reading, allOkay_data4, by decide +kernel⟩

/-- A burst that supersedes a show and frees the WITHDRAWN key it listed, whose revocation is settled. -/
theorem test_witness_DecisionOpensLease_supersede :
    let s := (leased other6 key7).setRevocations [⟨8, 2, 6800, .pending⟩]
    lawful s = true ∧ burstSetting s = true ∧ s.clock.state = .running ∧ s.findKey header7.keyId = some (0, key7)
      ∧ (s.key 1).map (fun k => k.state) = some .withdrawn ∧ s.anyLists 8 = true
      ∧ (after s (.decision 40 data4)).revocations = [⟨8, 2, 6800, .listed⟩] := by decide +kernel

theorem test_witness_DecisionRefusesOpening :
    (∀ s, Awaits (reading s) 40 (track 3) data4.length) ∧ AllOkay data4
      ∧ ∀ l ∈ other6 :: opening,
        [keyed.setClock { keyed.clock with state := .suspect }, keyed.setKey 0 none,
          withKey { key7 with state := .waiting }, withKey { key7 with state := .closed },
          withKey { key7 with state := .withdrawn }, withKey { key7 with auditoriums := 0xFFFB },
          withKey { key7 with feature := 8 }, withKey { key7 with allowance := some { base := 3, current := 0 } }].map
          (fun s => let s := reading (s.setLease 2 l); (burstSetting s, decide (s.lease 2 = l), openingCause s))
        = [(true, true, some .clock), (true, true, some .noKey), (true, true, some .keyWaiting),
           (true, true, some .keyClosed), (true, true, some .keyWithdrawn), (true, true, some .auditorium),
           (true, true, some .feature), (true, true, some .allowance)] :=
  ⟨awaits_reading, allOkay_data4, by decide +kernel⟩

/-- A refusal that stands; a retry that meets its cause of before, and one that does not; and a WITHDRAWN key that the
superseded show alone listed. -/
theorem test_witness_DecisionRefusesOpening_again :
    (let s := leased (.refused 5 { cause := .clock, wanting := 7, generation := 0 }) key7
     burstSetting s = true ∧ s.lease 2 = .refused 5 { cause := .clock, wanting := 7, generation := s.keys.generation })
      ∧ [(.keyClosed, 9), (.clock, 9)].map (fun old =>
          let s := leased (.refused 5 { cause := old.1, wanting := 7, generation := old.2 }) { key7 with state := .closed }
          (burstSetting s, openingCause s, decide (s.keys.generation = old.2)))
        = [(true, some LeaseCause.keyClosed, false), (true, some .keyClosed, false)]
      ∧ (let s := leased other6 { key7 with state := .withdrawn }
         lawful s = true ∧ burstSetting s = true ∧ openingCause s = some .keyWithdrawn
           ∧ (s.setLease 2 .idle).anyLists header7.keyId = false) := by
  and_intros <;> decide +kernel

/-- A part whose stream 2 serves the frame's show in a state, at a reading in seconds, under a key. -/
def servingIn (st : Serving) (sh : Show) (seconds : Nat) (k : Key) : State :=
  reading (((withKey k).setLease 2 (.serving st sh)).setClock { running.clock with reading := 65536 * seconds })

/-- The conditions of the use of a listed key (R61). -/
def usable (s : State) (st : Serving) (sh : Show) (k : Key) : Bool :=
  decide ((st = .running ∨ st = .overrun) ∧ s.clock.state ≠ .suspect ∧ header7.keyId ∈ sh.keys
    ∧ s.findKey header7.keyId = some (0, k) ∧ k.state ≠ .waiting
    ∧ (k.state = .closed → s.clock.reading / 65536 < k.notAfter + 60 * k.grace)
    ∧ k.feature = sh.feature ∧ header7.feature = sh.feature)

theorem test_witness_DecisionServesShow_expired :
    let s := servingIn .running show5 8100 key7
    Awaits s 40 (track 3) data4.length ∧ burstSetting s = true ∧ s.lease 2 = .serving .running show5
      ∧ show5.tag = header7.tag ∧ show5.hardEnd ≤ s.clock.reading / 65536 :=
  ⟨awaits_reading _, by decide +kernel⟩

theorem test_witness_DecisionServesShow_held :
    let s := servingIn (.held .overrun 950) show5 8099 key7
    Awaits s 40 (track 3) data4.length ∧ burstSetting s = true ∧ s.lease 2 = .serving (.held .overrun 950) show5
      ∧ s.clock.reading / 65536 < show5.hardEnd :=
  ⟨awaits_reading _, by decide +kernel⟩

theorem test_witness_DecisionServesShow_suspect :
    [Serving.running, .overrun].map (fun st =>
        let s := servingIn st show5 8099 key7
        let s := s.setClock { s.clock with state := .suspect }
        (burstSetting s, decide (s.lease 2 = .serving st show5), decide (s.clock.reading / 65536 < show5.hardEnd)))
      = [(true, true, true), (true, true, true)] := by decide +kernel

/-- Why a key may not be used by a show, or may not join its list, in the order of the conditions (R61, R62). -/
def useCause (s : State) (sh : Show) : Option LeaseCause :=
  let now := s.clock.reading / 65536
  let listed := sh.keys.contains header7.keyId
  match s.findKey header7.keyId with
  | none => some .noKey
  | some (_, k) =>
    if k.state = .waiting then some .keyWaiting
    else if listed = false ∧ k.state = .withdrawn then some .keyWithdrawn
    else if k.state = .closed ∧ k.notAfter + 60 * k.grace ≤ now then some .gracePassed
    else if listed = false ∧ (sh.start < k.notBefore ∨ k.notAfter ≤ sh.start) then some .window
    else if listed = false ∧ inSet k.auditoriums 2 = false then some .auditorium
    else if k.feature ≠ sh.feature ∨ header7.feature ≠ sh.feature then some .feature
    else if listed = false ∧ 8 ≤ sh.keys.length then some .listFull
    else none

/-- What a burst of the show a lease serves meets. -/
def useSetting (st : Serving) (sh : Show) (seconds : Nat) (k : Key) : Bool × Option LeaseCause :=
  let s := servingIn st sh seconds k
  (burstSetting s && decide (s.lease 2 = .serving st sh ∧ sh.tag = header7.tag ∧ seconds < sh.hardEnd
    ∧ s.clock.state ≠ .suspect), useCause s sh)

theorem test_witness_DecisionServesShow_unusable :
    [{ key7 with keyId := 8 }, { key7 with state := .waiting }, { key7 with state := .closed },
        { key7 with feature := 8 }].map (useSetting .running show5 6800)
      = [(true, some .noKey), (true, some .keyWaiting), (true, some .gracePassed), (true, some .feature)] := by
  decide +kernel

/-- A show that lists n keys, the frame's not among them. -/
def joining (n : Nat) : Show := { show5 with keys := (List.range n).map (fun i => BitVec.ofNat 32 (20 + i)) }

theorem test_witness_DecisionServesShow_not_joining :
    [((joining 1, { key7 with keyId := 8 }) : Show × Key), (joining 1, { key7 with state := .waiting }),
        (joining 1, { key7 with state := .withdrawn }), (joining 1, { key7 with state := .closed }),
        (joining 1, { key7 with notBefore := 901 }), (joining 1, { key7 with notAfter := 900, grace := 100 }),
        (joining 1, { key7 with auditoriums := 0xFFFB }), (joining 1, { key7 with feature := 8 }),
        ({ joining 1 with feature := 8 }, key7), (joining 8, key7)].map (fun w => useSetting .overrun w.1 6800 w.2)
      = [(true, some .noKey), (true, some .keyWaiting), (true, some .keyWithdrawn), (true, some .gracePassed),
         (true, some .window), (true, some .window), (true, some .auditorium), (true, some .feature),
         (true, some .feature), (true, some .listFull)] := by decide +kernel

/-- Joins at the ends of the start's range, of a full list, and of a CLOSED key. -/
theorem test_witness_DecisionServesShow_joins :
    [((.running, { key7 with notBefore := 900 }) : Serving × Key), (.overrun, { key7 with notAfter := 901 }),
        (.running, { key7 with state := .closed }), (.overrun, { key7 with state := .closed })].map
        (fun w => useSetting w.1 (joining 7) 2000 w.2)
      = [(true, none), (true, none), (true, none), (true, none)] := by decide +kernel

theorem test_witness_DecisionServesShow_plain :
    ∀ w ∈ [((.running, show5, 4999, key7) : Serving × Show × Nat × Key),
           (.overrun, show5, 6799, { key7 with state := .closed }),
           (.running, show5, 8099, { key7 with state := .withdrawn }),
           (.running, { show5 with mode := .check, plainCount := 2 ^ 32 - 1 }, 1000, key7)],
      let s := servingIn w.1 w.2.1 w.2.2.1 w.2.2.2
      Awaits s 40 (track 3) data4.length ∧ burstSetting s = true ∧ s.lease 2 = .serving w.1 w.2.1
        ∧ w.2.1.tag = header7.tag ∧ s.clock.reading / 65536 < w.2.1.hardEnd
        ∧ usable s w.1 w.2.1 w.2.2.2 = true := by
  intro w m
  refine ⟨awaits_reading _, ?_⟩
  revert w
  decide +kernel

theorem test_witness_PlaintextNeedsALease :
    let s := servingIn .running show5 4999 key7
    Lawful s ∧ Awaits s 40 (track 3) data4.length ∧ (track 3).stream < 16 ∧ s.power.main = .up
      ∧ exec (.decision 40 data4) s = .next (after s (.decision 40 data4))
      ∧ ((after s (.decision 40 data4)).entry 40).bind (fun e => e.kind.tracker.map (fun u => u.state)) = some .decided :=
  ⟨laws_of (by decide +kernel), awaits_reading _, by decide +kernel, by decide +kernel, rfl, by decide +kernel⟩

/-! ## Witnesses: lanes -/

/-- A DECIDED burst of a source for a stream: header beat, two PLAIN beats, fill. -/
def decidedEntry (tag : Nat) (source : SourceId) (stream : Nat) : Entry :=
  { entryOf tag (.cipher { track 3 with source := source, stream := stream, state := .decided
                                        inputs := some { key := 1, frameIndex := 3 } }) .atMemory 4
      [okayBeat 1, { okayBeat 2 with plain := true }, { okayBeat 3 with plain := true }, okayBeat 4]
    with source := source }

def idleJob : LaneJob := { tag := 7, stream := 0, key := 0, frameIndex := 0, beats := [] }

/-- A part with candidates of streams 2, 2 and 5, lane 0 BUSY and stream 2 last granted. -/
def contended (mode : Arbitration) (last : Nat) : State :=
  ((withEntries running [decidedEntry 40 0x23 2, decidedEntry 41 0x22 2, decidedEntry 42 0x50 5]).setEngine
    { lanes := [some idleJob, none, none, none]
      lastGranted := last }).setPlan { running.plan with arbitration := mode }

/-- An entry comes first in the order of R104 among all bursts of a state. -/
def firstBurst (s : State) (e : Entry) : Bool :=
  let place (stream : Nat) : Nat :=
    match s.plan.arbitration with
    | .rotating => (stream + 16 - (s.engine.lastGranted + 1) % 16) % 16
    | .fixed => stream
  decide (∀ f ∈ s.path.entries, f ≠ e →
    place e.stream < place f.stream ∨ (place e.stream = place f.stream ∧ e.source < f.source))

/-- The three bursts are candidates: each is DECIDED, of a source of its own. -/
theorem candidate_contended (mode : Arbitration) (last : Nat) :
    Candidate (contended mode last) (decidedEntry 40 0x23 2) ∧ Candidate (contended mode last) (decidedEntry 41 0x22 2)
      ∧ Candidate (contended mode last) (decidedEntry 42 0x50 5) :=
  ⟨⟨⟨_, rfl, rfl⟩, [], _, rfl, by simp⟩,
   ⟨⟨_, rfl, rfl⟩, [decidedEntry 40 0x23 2], _, rfl, by
      intro f m h
      simp only [List.mem_singleton] at m
      subst m
      exact absurd h (by decide)⟩,
   ⟨⟨_, rfl, rfl⟩, [decidedEntry 40 0x23 2, decidedEntry 41 0x22 2], [], rfl, by
      intro f m h
      simp only [List.mem_cons, List.not_mem_nil, or_false] at m
      rcases m with rfl | rfl <;> exact absurd h (by decide)⟩⟩

theorem test_witness_LaneGrantResults :
    (∀ e, ¬ Candidate running e)
      ∧ (∀ j ∈ (running.setEngine { running.engine with lanes := List.replicate 4 (some idleJob) }).engine.lanes,
          j ≠ none)
      ∧ firstBurst (contended .rotating 2) (decidedEntry 42 0x50 5) = true
      ∧ firstBurst (contended .rotating 15) (decidedEntry 41 0x22 2) = true
      ∧ firstBurst (contended .fixed 2) (decidedEntry 41 0x22 2) = true
      ∧ (contended .fixed 2).power.main = .up ∧ 1 < (contended .fixed 2).engine.lanes.length
      ∧ (contended .fixed 2).engine.lanes.map (fun j => j.isSome) = [true, false, false, false] := by
  refine ⟨?_, ?_⟩
  · rintro e ⟨_, older, younger, h, _⟩
    exact absurd h (by simp [running, State.reset, Path.initial])
  · and_intros <;> decide +kernel

theorem test_witness_LaneCompleteResults :
    let s := after (contended .fixed 2) .laneGrant
    s.power.main = .up ∧ s.engine.lanes.getD 3 none = none
      ∧ ((s.engine.lanes.getD 1 none).bind (fun job => (s.entry job.tag).map (fun e =>
          (e.kind.tracker.map (fun t => t.state),
            decide ((job.beats.map (fun b => b.place)).Nodup ∧ ∀ b ∈ job.beats, b.place < e.response.length)))))
        = some (some .inLane, true) := by
  and_intros <;> decide +kernel

/-! ## Witnesses: memory's answers to writes -/

/-- A write of source 1 at memory under tag 5. -/
def writeAt (s : State) (info : WriteInfo) (others : List Entry) : State :=
  withEntries s (others ++ [{ entryOf 5 (.write info) .atMemory 1 [] with source := 1 }])

def writeInfo (kept : Option Kept) (cells : List Nat) (consumer : Option (BitVec 16)) : WriteInfo :=
  { beats := [fullBeat 7], kept := kept, cells := cells, consumer := consumer }

theorem test_witness_WriteAnswerResults :
    running.power.main = .up
      ∧ [none, some 0, some 511, some 512].map (fun consumer =>
          ((writeAt running (writeInfo none [] consumer) []).entry 5).map (fun e =>
            (e.state, decide (e.kind = .write (writeInfo none [] consumer)))))
        = List.replicate 4 (some (.atMemory, true)) := by decide +kernel

/-- The frame a burst was kept for stands in a state with a generation. -/
def keptFor (f : FrameState) (generation : BitVec 8) (others : List Entry) : State :=
  writeAt (keyed.setFrame 2 1 { state := f, generation := generation }) (writeInfo (some ⟨2, 1, 4⟩) [] none) others

/-- Another burst kept for the same frame. -/
def otherKept (state : EntryState) : Entry := entryOf 4 (.write (writeInfo (some ⟨2, 1, 4⟩) [] none)) state 1 []

theorem test_witness_FrameAnswerResults :
    ∀ s ∈ [keptFor (filling 6) 4 [], keptFor (filling 6) 4 [otherKept .composed], keptFor (filling 6) 4 [otherKept .issueWait],
           keptFor (filling 5) 4 [], keptFor (filling 6) 5 [], keptFor (.header 0x10 1 [7]) 4 [], keptFor .vacant 4 [],
           keptFor ready 4 []],
      lawful s = true ∧ s.power.main = .up
        ∧ (s.entry 5).map (fun e => (e.kind, e.state)) = some (.write (writeInfo (some ⟨2, 1, 4⟩) [] none), .atMemory) := by
  decide +kernel

/-- One pending commit, of cell 6 under tag 5, and an earlier write of its source to the cell that has its answer. -/
def committing (queue : List QueueEntry) (verifier : Verifier) : State :=
  writeAt (intakeAt { commits := [{ cell := 6, tag := 5, source := 1, fields := ⟨3, 4, 48⟩, okay := false }]
                      queue := queue, verifier := verifier })
    (writeInfo none [6] none) [{ entryOf 4 (.write (writeInfo none [6] none)) .composed 1 [] with source := 1 }]

def queued (n : Nat) : List QueueEntry := (List.range n).map (fun i => { cell := 10 + i, fields := ⟨1, 4, 48⟩ })

/-- A write of cells 6 and 7 at memory under tag 3, with later commits of its source to both, both answered OKAY, and one
of cell 8 that waits for an earlier write to that cell; its consumer beat pending. -/
def releasing (queue : List QueueEntry) (verifier : Verifier) : State :=
  let commit (cell tag : Nat) : PendingCommit :=
    { cell := cell, tag := tag, source := 1, fields := ⟨BitVec.ofNat 32 cell, 4, 48⟩, okay := true }
  let write (tag : Nat) (cells : List Nat) (consumer : Option (BitVec 16)) (state : EntryState) : Entry :=
    { entryOf tag (.write (writeInfo none cells consumer)) state 1 [] with source := 1 }
  withEntries (intakeAt { commits := [commit 6 4, commit 7 5, commit 8 6], queue := queue, verifier := verifier })
    [write 2 [8] none .issueWait, write 3 [6, 7] (some 511) .atMemory, write 4 [6] none .composed,
     write 5 [7] none .composed, write 6 [8] none .composed]

theorem test_witness_CommitResults :
    (∀ s ∈ [committing [] .idle, committing (queued 7) (.checking 5 []), committing (queued 8) (.checking 5 []),
           committing [] .draining],
      lawful s = true ∧ s.power.main = .up ∧ s.intake.commits.map (fun c => (c.cell, c.tag, c.source)) = [(6, 5, 1)]
        ∧ (s.entry 5).map (fun e => (e.kind, e.state)) = some (.write (writeInfo none [6] none), .atMemory)
        ∧ (s.path.entries.map (fun g => (g.tag, g.state))) = [(4, .composed), (5, .atMemory)])
      ∧ ∀ s ∈ [releasing [] .idle, releasing (queued 7) (.checking 5 []), releasing (queued 6) .draining],
          lawful s = true ∧ s.power.main = .up
            ∧ (s.entry 3).map (fun e => (e.kind, e.state)) = some (.write (writeInfo none [6, 7] (some 511)), .atMemory)
            ∧ (s.commitsAnswered 3 .okay).map (fun c => (c.cell, c.okay && !s.waitsForEarlier 3 c))
              = [(6, true), (7, true), (8, false)] := by
  and_intros <;> decide +kernel

/-- R130, R133: the answer to an earlier write lets two commits be taken: the queue has place for one, and a third waits
for another write. -/
theorem test_commits_released :
    (let t := after (releasing (queued 7) (.checking 5 [])) (.writeAnswer 3 .okay)
     (t.intake.queue.map (fun e => e.cell), t.intake.commits.map (fun c => c.cell), t.report.consumer,
      t.report.staging.map (fun r => (r.kind, r.cause, r.subject))))
      = ([10, 11, 12, 13, 14, 15, 16, 6], [8], 511, [(.parcelRefused, RefusalCause.busy.code, 7)]) := by decide +kernel

/-! ## Witnesses: the verifier and the owners -/

/-- A verifier that reads cell 3 has its burst answered. -/
def verifying (buffer : List Beat) (count : Nat) : State :=
  atMemory (intakeAt { commits := [], queue := queued 1, verifier := .reading 3 ⟨9, 4, 48⟩ buffer }) 8
    (.verifierRead 3 buffer.length count)

theorem test_witness_VerifierReadResults :
    ∀ w ∈ [([], 16), ([parcelHead 3 320 9], 15), ([parcelHead 3 320 9], 1)],
      let s := verifying w.1 w.2
      lawful s = true ∧ s.power.main = .up ∧ burstLength w.2 = true
        ∧ s.internal.atMemory.find? (fun q => decide (q.tag = 8)) = some ⟨8, .verifierRead 3 w.1.length w.2⟩
        ∧ s.intake.verifier = .reading 3 ⟨9, 4, 48⟩ w.1 := by decide +kernel

/-- A torn verification whose read is answered while others wait. -/
theorem test_witness_VerifierReadResults_draining :
    ∀ n ∈ [0, 2],
      let s := atMemory (intakeAt { commits := [], queue := queued n, verifier := .draining }) 8 (.verifierRead 3 0 16)
      lawful s = true ∧ s.power.main = .up
        ∧ s.internal.atMemory.find? (fun q => decide (q.tag = 8)) = some ⟨8, .verifierRead 3 0 16⟩
        ∧ s.intake.verifier = .draining := by decide +kernel

/-- R136: beat 0s that each check refuses, and good ones at the ends of their lengths. -/
theorem test_witness_VerifierReadResults_headers :
    [parcelHead 4 48 9 + 1, parcelHead 4 48 9 + 0x10000, parcelHead 6 48 9, parcelHead 4 32 9, parcelHead 1 1040 9,
      parcelHead 1 65 9, parcelHead 4 64 9, parcelHead 4 48 9 + (1 <<< 80), parcelHead 4 48 9, parcelHead 1 96 9,
      parcelHead 1 1024 9, parcelHead 2 64 9, parcelHead 2 1008 9, parcelHead 3 80 9, parcelHead 3 320 9,
      parcelHead 5 48 9].map running.headerCheck
      = [some .format, some .format, some .format, some .length, some .length, some .length, some .length,
         some .wrongDevice, none, none, none, none, none, none, none, none]
      ∧ [parcelHead 4 48 9, parcelHead 3 320 9].map (fun b => (capturedFields b).length.toNat / 16) = [3, 20] := by
  decide +kernel

/-- A parcel under its tag check whose last beat is its authentication, or is not. -/
def tagged (s : State) (kind : Nat) (flags : Nat) (off : Beat) : State :=
  let b := [parcelHead kind 48 9, beatOfBytes (timeBytes 1000 0 flags)]
  let tag := Config.messageAuthentication Config.deviceRootKey (bytesOf b) + off
  s.setIntake { commits := [], queue := [], verifier := .checking 3 (b ++ [tag]) }

theorem test_witness_TagCheckResults (s : State) (kind flags : Nat) (off : Beat) :
    ∃ buffer, (tagged s kind flags off).intake.verifier = .checking 3 buffer
      ∧ (Config.messageAuthentication Config.deviceRootKey (bytesOf buffer.dropLast) = buffer.getLastD 0 ↔ off = 0) := by
  refine ⟨_, rfl, ?_⟩
  simp only [List.dropLast_concat, List.getLastD_concat]
  exact ⟨fun h => by simpa using h, fun h => by simp [h]⟩

theorem test_witness_TagCheckResults_clearing :
    [(0x04, 3), (0x04, 1), (0x05, 3)].map (fun w =>
        let b := [parcelHead w.1 48 9, beatOfBytes (timeBytes 1000 0 w.2)]
        ((capturedFields (b.headD 0)).kind, (timeBody (bytesOf b)).resync, (timeBody (bytesOf b)).clearTrip))
      = [(4, true, true), (4, true, false), (5, true, true)]
      ∧ tripped.power.main = .up ∧ tripped.trip.latch ≠ .normal ∧ running.trip.latch = .normal := by decide +kernel

/-- A GRANT of key 8 for a window that has begun, with one entry under a wrapped value. -/
def grantBytes (wrapped : BitVec 128) : List Byte :=
  leBytes 4 9 ++ leBytes 2 0xFFFF ++ leBytes 1 30 ++ leBytes 1 1 ++ leBytes 8 100 ++ leBytes 8 5000 ++ leBytes 2 120
    ++ leBytes 2 3 ++ leBytes 4 0 ++ leBytes 4 8 ++ leBytes 2 1 ++ leBytes 10 0 ++ leBytes 16 wrapped.toNat

/-- The common part of that GRANT. -/
def common8 : GrantCommon := grantCommon (bytesOf (parcel 1 9 (grantBytes 0)))

/-- A good unwrapped value: neither all zero bits nor all one bits. -/
def Good (e : GrantEntry) : Prop :=
  let value := Config.unwrap (Config.wrappingKey Config.deviceRootKey e.keyId e.revision) e.wrapped
  ¬ (value = 0 ∨ value = BitVec.allOnes 128)

theorem grantEntry_passes {s : State} {e : GrantEntry} (good : Good e) (padding : e.padding = 0)
    (id : e.keyId = 8 ∨ e.keyId = 9) (list : s.revocations = []) (reading : s.clock.reading = 65536 * 1000)
    (new : s.findKey e.keyId = none) :
    GrantEntryFails s common8 e = none := by
  have a : ¬ (2 ^ 40 ≤ common8.notBefore ∨ 2 ^ 40 ≤ common8.notAfter ∨ common8.notAfter ≤ common8.notBefore
      ∨ 240 < common8.grace ∨ common8.maxRun = 0 ∨ 480 < common8.maxRun ∨ 1 < common8.flags
      ∨ (common8.flags = 1 ∧ common8.allowanceBase = 0) ∨ common8.auditoriums = 0 ∨ common8.padding ≠ 0
      ∨ e.keyId = 0 ∨ e.padding ≠ 0) := by
    rw [padding]
    rcases id with id | id <;> rw [id] <;> decide +kernel
  have b : ¬ common8.notAfter ≤ 65536 * 1000 / 65536 := by decide +kernel
  unfold GrantEntryFails
  dsimp only
  rw [if_neg a, if_neg good, list, reading, if_neg (by simp), if_neg b, new]

/-- A GRANT of keys 8 and 9 under two wrapped values. -/
def grantBytes2 : List Byte := grantBytes 0 ++ leBytes 4 9 ++ leBytes 2 1 ++ leBytes 26 0

/-- The unwrapping is free (log 7): a GRANT of two new keys passes every check where their values unwrap well; they take
the EMPTY slots 1 and 2. -/
theorem test_witness_GrantApplied (e f : GrantEntry) (goods : Good e ∧ Good f) (paddings : e.padding = 0 ∧ f.padding = 0)
    (ids : e.keyId = 8 ∧ f.keyId = 9) :
    let s := withParcel keyed (parcel 1 9 grantBytes2)
    GrantPasses s common8 [e, f] ∧ lawful s = true ∧ (s.grantSlot [e, f] e = 1 ∧ s.grantSlot [e, f] f = 2)
      ∧ (∃ p, s.dispatched .grant = some p ∧ grantCommon p.bytes = common8
          ∧ (grantEntries p.bytes p.fields.length.toNat).map (fun e => (e.keyId, e.padding)) = [(8, 0), (9, 0)]) := by
  intro s
  have none8 : s.findKey 8 = none := by decide +kernel
  have none9 : s.findKey 9 = none := by decide +kernel
  refine ⟨⟨by decide +kernel, by decide +kernel, by simp [ids.1, ids.2], ?_, ?_⟩, by decide +kernel, ?_,
    taken s .grant, by decide +kernel, by decide +kernel, by decide +kernel⟩
  · intro g m
    rcases List.mem_pair.mp m with rfl | rfl
    · exact grantEntry_passes goods.1 paddings.1 (.inl ids.1) (by decide +kernel) (by decide +kernel) (ids.1 ▸ none8)
    · exact grantEntry_passes goods.2 paddings.2 (.inr ids.2) (by decide +kernel) (by decide +kernel) (ids.2 ▸ none9)
  · have room : 2 ≤ s.emptyCount := by decide +kernel
    exact Nat.le_trans (List.countP_le_length) room
  · simp only [State.grantSlot, State.newKeys, ids.1, ids.2, none8, none9, List.takeWhile_cons]
    simp [ids.1]
    decide +kernel

/-- A part without an EMPTY slot. -/
def fullTable : State := keyed.setKeys { slots := [some key7], generation := 0 }

theorem test_witness_OwnersRefuse_table_full (e : GrantEntry) (good : Good e) (padding : e.padding = 0)
    (id : e.keyId = 8) : GrantRefused fullTable common8 [e] .tableFull 0 := by
  have new : fullTable.findKey e.keyId = none := by rw [id]; decide +kernel
  have room : fullTable.emptyCount < fullTable.newKeys [e] := by
    rw [show fullTable.emptyCount = 0 by decide +kernel]
    simp [State.newKeys, new]
  refine .inr ⟨by decide +kernel, .inr ⟨by decide +kernel, .inr ⟨by simp, .inr ⟨?_, .inl ⟨room, ?_⟩⟩⟩⟩⟩
  · rintro ⟨f, m, bad⟩
    rw [List.mem_singleton.mp m] at bad
    exact bad (grantEntry_passes good padding (.inl id) rfl (by decide +kernel) new)
  · exact ⟨0, e, rfl, ⟨rfl, room, fun j _ h => absurd h (Nat.not_lt_zero j)⟩, rfl⟩

def revokePassesDec (s : State) (c : RevokeCommon) (entries : List RevokeEntry) (mode : RevokeMode) :
    Decidable (RevokePasses s c entries mode) := by
  unfold RevokePasses RevokeCommonFails
  infer_instance

/-- A part with a RUNNING lease on key 7, a WITHDRAWN key 8 that no other lease lists, a WAITING key 9, and a list. -/
def revocable : State :=
  ((leased (.serving .running { show5 with keys := [7, 8] }) key7).setKey 2
      (some { key7 with keyId := 9, state := .waiting, notBefore := 2000 })).setRevocations
    [{ keyId := 30, revision := 4, retainUntil := 1500, condition := .listed },
     { keyId := 8, revision := 2, retainUntil := 6800, condition := .pending }]

/-- A REVOKE of a mode of several entries. -/
def revokeOf (mode : Nat) (entries : List (Nat × Nat × Nat)) : List Byte :=
  leBytes 1 mode ++ leBytes 1 entries.length ++ leBytes 14 0
    ++ entries.flatMap (fun e => leBytes 4 e.1 ++ leBytes 2 e.2.1 ++ leBytes 2 0 ++ leBytes 8 e.2.2)

/-- That part with leases of streams 4 and 5 on key 9 and on an unnamed key. -/
def manyLeases : State :=
  (revocable.setLease 4 (.serving .overrun { show5 with keys := [9, 7] })).setLease 5
    (.serving .running { show5 with keys := [8] })

/-- R71: the notices of two entries end the leases that list their keys, in entry order, and no other lease. -/
theorem test_revoke_ends :
    (let s := withParcel manyLeases (parcel 2 9 (revokeOf 1 [(9, 2, 0), (7, 2, 0)]))
     let entries := revokeEntries (taken s .revoke).bytes (taken s .revoke).fields.length.toNat
     let t := after s .revoke
     ((revokeEnds s entries).map (fun r => (r.stream, r.cause)), (t.report.staging.filter (fun r =>
        decide (r.kind = .leaseEnded))).map (fun r => (r.stream, r.cause)), t.lease 2, t.lease 4, t.lease 5))
      = ([(4, 3), (2, 3)], [(4, 3), (2, 3)], .idle, .idle, .serving .running { show5 with keys := [8] }) := by
  decide +kernel

/-- A REVOKE that a state takes, with what RevokeApplied asks of the state and of the parcel. -/
def revokes (s : State) (mode : RevokeMode) (p : Dispatched) : Bool :=
  lawful s && decide (s.dispatched .revoke = some p)
    && @decide _ (revokePassesDec s (revokeCommon p.bytes) (revokeEntries p.bytes p.fields.length.toNat) mode)

/-- Keys listed, not listed, WAITING and unknown; an entry merged, one whose time has passed. -/
theorem test_witness_RevokeApplied :
    ∀ w ∈ [((1, .immediate) : Nat × RevokeMode), (2, .afterShow)],
      let s := withParcel manyLeases (parcel 2 9 (revokeOf w.1 [(7, 2, 0), (9, 2, 2 ^ 40 - 1), (30, 5, 9000), (31, 1, 1000)]))
      let p := taken s .revoke
      let entries := revokeEntries p.bytes p.fields.length.toNat
      revokes s w.2 p = true ∧ entries.map (fun e => e.keyId) = [7, 9, 30, 31]
        ∧ entries.map (fun e => (s.findKey e.keyId).isSome) = [true, true, false, false]
        ∧ entries.map (revokeRetain s) = [6800, 2 ^ 40 - 1, 9000, 1000]
        ∧ (s.findKey 8).map (fun q => q.2.state) = some .withdrawn := by decide +kernel

/-- A merge with a lower revision and an earlier time; a PENDING entry that the parcel does not name, whose key a lease
end frees, or does not; a list of 31, of whose two new entries one finds a place, while a merge needs none. -/
theorem test_witness_RevokeApplied_list :
    [revocable, manyLeases].map (fun s =>
        let s := withParcel s (parcel 2 9 (revokeOf 1 [(7, 2, 0), (30, 3, 1200)]))
        let t := after s .revoke
        (revokes s .immediate (taken s .revoke), s.freed t 8, t.revocations,
          t.report.staging.map (fun r => (r.kind, r.cause))))
      = [(true, true, [⟨30, 4, 1500, .listed⟩, ⟨8, 2, 6800, .listed⟩, ⟨7, 2, 6800, .listed⟩],
          [(.keyRevoked, 1), (.leaseEnded, 3), (.keyFreed, 2), (.parcelTaken, 2)]),
         (true, false, [⟨30, 4, 1500, .listed⟩, ⟨8, 2, 6800, .pending⟩, ⟨7, 2, 6800, .listed⟩],
          [(.keyRevoked, 1), (.leaseEnded, 3), (.leaseEnded, 3), (.parcelTaken, 2)])]
      ∧ (let full := (List.range 29).map (fun i => (⟨BitVec.ofNat 32 (100 + i), 1, 1200, .listed⟩ : Revocation))
         let s := withParcel (revocable.setRevocations (full ++ revocable.revocations))
           (parcel 2 9 (revokeOf 2 [(31, 1, 9000), (32, 1, 9000), (30, 9, 9000)]))
         let p := taken s .revoke
         let entries := revokeEntries p.bytes p.fields.length.toNat
         let t := after s .revoke
         revokes s .afterShow p = true
           ∧ [31, 32, 30].map (fun id => (t.revocations.find? (fun r => decide (r.keyId = id))).map (fun r => r.revision))
             = [some 1, none, some 9]
           ∧ (List.range 3).map (fun i => ((entries[i]?).map (fun e =>
               ((revokeStanding s .afterShow e).isSome, revokePlaces s t .afterShow (entries.take i) e))))
             = [some (false, 31), some (false, 32), some (true, 32)]) := by
  and_intros <;> decide +kernel

def overlapsDec (s : State) (entries : List PlanEntry) (e : PlanEntry) : Decidable (PlanOverlaps s entries e) :=
  have := apartDec
  by unfold PlanOverlaps OtherPlanned; infer_instance
def sharesDec (s : State) (entries : List PlanEntry) (e : PlanEntry) : Decidable (PlanSharesSource s entries e) := by
  unfold PlanSharesSource OtherPlanned; infer_instance
def meetsBusyDec (s : State) (e : PlanEntry) : Decidable (PlanMeetsBusy s e) :=
  have : Decidable (PlanChanges s e) := by unfold PlanChanges; infer_instance
  decidable_of_iff (e.action = 1 ∧ (s.lease e.stream).busy = true ∧ PlanChanges s e) (by
    unfold PlanMeetsBusy
    cases s.lease e.stream <;> simp [Lease.busy])

def planPassesDec (s : State) (c : PlanCommon) (entries : List PlanEntry) : Decidable (PlanPasses s c entries) :=
  have := overlapsDec s entries
  have := sharesDec s entries
  have := meetsBusyDec s
  have (e : PlanEntry) : Decidable (PlanFieldsFail e) := by unfold PlanFieldsFail; infer_instance
  by unfold PlanPasses PlanCommonFails PlanShrinks; infer_instance

/-- A part with a read that waits for a tracker of stream 2, whose source holds 48. -/
def waitingRead : State :=
  let full := withEntries keyed (crowd 48 (.cipher (track 0)))
  full.setPath { full.path with heads := [{ request := .read (rd 0x22 0x100000000 1), since := 0 }], epoch := 3 }

/-- A change of the reserved trackers, of the mode, a RETIRE, which frees the waiting read of its tracker, and a new
ring at the end of the address space. -/
theorem test_witness_PlanApplied :
    ∀ s ∈ [keyed, waitingRead],
      ∀ body ∈ [planBytes 7 2 1 0x22 1 0 4 6 0x100000000, planBytes 7 2 1 0x22 2 0 4 2 0x100000000,
                planBytes 7 2 2 0 0 0 0 0 0, planBytes 1 15 1 0x23 1 3 64 8 0xFF0000000],
        let s := withParcel s (parcel 3 9 body)
        let p := taken s .plan
        lawful s = true ∧ s.dispatched .plan = some p
          ∧ @decide _ (planPassesDec s (planCommon p.bytes) (planEntries p.bytes p.fields.length.toNat)) = true := by
  decide +kernel

/-- A SET that does not move its stream, and one of another stream: the lease and the READY frame stay. -/
theorem test_witness_PlanApplied_unmoved :
    ∀ l ∈ [Lease.serving .running show5, .refused 6 { cause := .noKey, wanting := 9, generation := 0 }],
      ∀ body ∈ [planBytes 7 2 1 0x22 1 0 4 6 0x100000000, planBytes 1 15 1 0x23 1 3 64 8 0xFF0000000],
        let s := withParcel (keyed.setLease 2 l) (parcel 3 9 body)
        let p := taken s .plan
        let t := after s .plan
        lawful s = true ∧ s.dispatched .plan = some p
          ∧ @decide _ (planPassesDec s (planCommon p.bytes) (planEntries p.bytes p.fields.length.toNat)) = true
          ∧ (t.stream 2).generation = (s.stream 2).generation ∧ s.path.heads = [] ∧ t.lease 2 = l
          ∧ t.frame 2 1 = { state := ready, generation := 4 } ∧ t.intake.verifier = .idle := by decide +kernel

/-- A PLAN that begins a day by its day offset of 6 h and retires a stream whose RUNNING lease is the last to list a
WITHDRAWN key, whose revocation is settled, while a DAILY key has been spent. -/
theorem test_witness_PlanApplied_day :
    let part := ((serving.setLease 2 (.serving .running { show5 with keys := [7, 8] })).setKey 1
      (some { key7 with keyId := 8, state := .withdrawn, notAfter := 400000 })).setKey 2
        (some { key7 with keyId := 9, daily := true, notAfter := 400000 })
    let s := withParcel ((part.setClock { part.clock with reading := 65536 * 130000, day := 0 }).setRevocations
        [⟨8, 2, 400000, .pending⟩])
      (parcel 3 9 (planBytes 7 2 2 0 0 0 0 0 0))
    let p := taken s .plan
    let c := planCommon p.bytes
    lawful s = true ∧ s.dispatched .plan = some p
      ∧ @decide _ (planPassesDec s c (planEntries p.bytes p.fields.length.toNat)) = true
      ∧ s.clock.state ≠ .unset ∧ s.clock.day < dayNumber (s.clock.reading / 65536) c.dayOffset
      ∧ (s.lease 2).busy = true ∧ (s.key 2).map Key.raised = some true
      ∧ (let t := after s .plan
         t.revocations = [⟨8, 2, 400000, .listed⟩] ∧ (t.key 1, t.clock.day, (t.key 2).map Key.raised, t.keys.generation, t.report.staging.map (fun r => (r.kind, r.cause)))
           = (none, 1, some false, 1, [(.leaseEnded, 5), (.keyFreed, 2), (.dayBegan, 3), (.parcelTaken, 3)])) := by
  intro part s p c
  and_intros <;> decide +kernel

theorem test_witness_PlanApplied_head :
    waitingRead.path.heads = [{ request := .read (rd 0x22 0x100000000 1), since := 0 }] ∧ waitingRead.path.behind = []
      ∧ (offer (.read (rd 0x22 0x100000000 1))).wellFormed = true
      ∧ [planBytes 7 2 2 0 0 0 0 0 0, planBytes 1 15 1 0x23 1 3 64 8 0xFF0000000].map (fun body =>
          let s := withParcel (waitingRead.setPath { waitingRead.path with heads := [] }) (parcel 3 9 body)
          acceptableB (after s .plan) (.read (rd 0x22 0x100000000 1))) = [true, false] := by decide +kernel

/-! ## Witnesses: the first check that fails -/

def firstEntryDec {α : Type} [DecidableEq α] (entries : List α) (fails : Nat → α → Prop)
    [∀ i a, Decidable (fails i a)] (i : Nat) (e : α) : Decidable (FirstEntry entries fails i e) :=
  decidable_of_iff (entries[i]? = some e ∧ fails i e
      ∧ ∀ j < i, (entries[j]?).all (fun a => !decide (fails j a)) = true) (by
    unfold FirstEntry
    refine and_congr_right fun _ => and_congr_right fun _ => forall_congr' fun j => ?_
    cases entries[j]? <;> simp)

def someEntryDec {α : Type} (entries : List α) (index : BitVec 16) (first : Nat → α → Prop)
    [∀ i a, Decidable (first i a)] (stands : ∀ i e, first i e → entries[i]? = some e) :
    Decidable (∃ i e, index = BitVec.ofNat 16 i ∧ first i e) :=
  decidable_of_iff (∃ i < entries.length, (entries[i]?).any (fun e => decide (index = BitVec.ofNat 16 i ∧ first i e)))
    (by
      constructor
      · rintro ⟨i, _, h⟩
        cases g : entries[i]? with
        | none => simp [g] at h
        | some e => exact ⟨i, e, by simpa [g] using h⟩
      · rintro ⟨i, e, h⟩
        have g := stands i e h.2
        refine ⟨i, ?_, by simpa [g] using h⟩
        exact (List.getElem?_eq_some_iff.mp g).1)

def firstNamedDec {α : Type} [DecidableEq α] (entries : List α) (index : BitVec 16) (fails : Nat → α → Prop)
    [∀ i a, Decidable (fails i a)] (named : α → Prop) [DecidablePred named] :
    Decidable (∃ i e, index = BitVec.ofNat 16 i ∧ FirstEntry entries fails i e ∧ named e) :=
  have := firstEntryDec entries fails
  someEntryDec entries index (fun i e => FirstEntry entries fails i e ∧ named e) (fun _ _ h => h.1.1)

def firstFailDec {α : Type} [DecidableEq α] (entries : List α) (index : BitVec 16) (fails : Nat → α → Prop)
    [∀ i a, Decidable (fails i a)] : Decidable (∃ i e, index = BitVec.ofNat 16 i ∧ FirstEntry entries fails i e) :=
  have := firstEntryDec entries fails
  someEntryDec entries index (FirstEntry entries fails) (fun _ _ h => h.1)

def grantRefusedDec (s : State) (c : GrantCommon) (entries : List GrantEntry) (cause : RefusalCause)
    (index : BitVec 16) : Decidable (GrantRefused s c entries cause index) :=
  have := firstNamedDec entries index
  by unfold GrantRefused; simp only [FirstCheck]; infer_instance

def revokeRefusedDec (s : State) (c : RevokeCommon) (entries : List RevokeEntry) (cause : RefusalCause)
    (index : BitVec 16) : Decidable (RevokeRefused s c entries cause index) :=
  have := firstNamedDec entries index
  by unfold RevokeRefused RevokeCommonFails; simp only [FirstCheck]; infer_instance

set_option synthInstance.maxSize 1024 in
set_option synthInstance.maxHeartbeats 200000 in
def planRefusedDec (s : State) (c : PlanCommon) (entries : List PlanEntry) (cause : RefusalCause)
    (index : BitVec 16) : Decidable (PlanRefused s c entries cause index) :=
  have := firstFailDec entries index
  have := overlapsDec s entries
  have := sharesDec s entries
  have := meetsBusyDec s
  have (e : PlanEntry) : Decidable (PlanFieldsFail e) := by unfold PlanFieldsFail; infer_instance
  by unfold PlanRefused PlanCommonFails PlanShrinks; simp only [FirstCheck]; infer_instance

/-- A GRANT with its common part as in the tests and two entries by key ID. -/
def grantOf (first second : Nat) : List Byte :=
  (grantBytes 0).take 32 ++ [first, second].flatMap (fun id => leBytes 4 id ++ leBytes 2 1 ++ leBytes 26 0)

theorem test_witness_OwnersRefuse_grant :
    ∀ w ∈ [((withParcel tripped (parcel 1 9 (grantBytes 0)), .tripped, 0xFFFF) : State × RefusalCause × BitVec 16),
           (withParcel (clocked Clock.initial) (parcel 1 9 (grantBytes 0)), .clockUnset, 0xFFFF),
           (withParcel keyed (parcel 1 9 (grantOf 8 8)), .duplicateEntry, 1),
           (withParcel keyed (parcel 1 9 (grantOf 0 8)), .badField, 0)],
      let p := taken w.1 .grant
      w.1.dispatched .grant = some p
        ∧ @decide _ (grantRefusedDec w.1 (grantCommon p.bytes) (grantEntries p.bytes p.fields.length.toNat) w.2.1 w.2.2)
          = true := by decide +kernel

theorem test_witness_OwnersRefuse_revoke :
    ∀ w ∈ [((tripped, revokeOf 1 [(7, 2, 0)], .tripped, 0xFFFF) : State × List Byte × RefusalCause × BitVec 16),
           (keyed, revokeOf 3 [(7, 2, 0)], .badField, 0), (keyed, revokeOf 0 [(7, 2, 0)], .badField, 0),
           (keyed, revokeOf 1 [(8, 2, 0), (7, 2, 0), (7, 3, 0)], .duplicateEntry, 2),
           (keyed, revokeOf 2 [(8, 2, 2 ^ 40 - 1), (9, 2, 2 ^ 40)], .badField, 1),
           (keyed, revokeOf 2 [(8, 1, 0), (7, 1, 0)], .stale, 1)],
      let s := withParcel w.1 (parcel 2 9 w.2.1)
      let p := taken s .revoke
      s.dispatched .revoke = some p
        ∧ @decide _ (revokeRefusedDec s (revokeCommon p.bytes) (revokeEntries p.bytes p.fields.length.toNat) w.2.2.1
            w.2.2.2) = true := by decide +kernel

/-- A PLAN of revision 7 of several entries. -/
def planOf (entries : List (List Byte)) : List Byte :=
  leBytes 4 7 ++ leBytes 4 21600 ++ leBytes 1 1 ++ leBytes 1 entries.length ++ leBytes 6 0 ++ leBytes 16 0x10
    ++ entries.flatten

/-- A SET and a RETIRE as a PLAN carries them. -/
def setOf (stream source mode sizeCode slotCount reserved base : Nat) : List Byte :=
  leBytes 1 stream ++ [1] ++ leBytes 1 source ++ leBytes 1 mode ++ leBytes 1 sizeCode ++ leBytes 1 slotCount
    ++ leBytes 1 reserved ++ [0] ++ leBytes 8 base
def retireOf (stream source : Nat) : List Byte := leBytes 1 stream ++ [2] ++ leBytes 1 source ++ leBytes 13 0

theorem test_witness_OwnersRefuse_plan :
    ∀ w ∈ [((tripped, planOf [retireOf 2 0], .tripped, 0xFFFF) : State × List Byte × RefusalCause × BitVec 16),
           (keyed.setPlan { keyed.plan with revision := 7 }, planOf [retireOf 2 0], .stale, 0xFFFF),
           (keyed, (planOf [retireOf 2 0]).set 8 3, .badField, 0),
           (keyed, planOf [retireOf 2 0, retireOf 3 0, retireOf 2 0], .duplicateEntry, 2),
           (keyed, planOf [retireOf 15 0, retireOf 16 0], .badField, 1),
           (keyed, planOf [retireOf 15 1], .badField, 0),
           (keyed, planOf [setOf 0 1 1 0 4 9 0x200000000], .badField, 0),
           (keyed, planOf [setOf 0 1 1 0 3 8 0x200000000], .badField, 0),
           (keyed, planOf [setOf 0 1 1 0 65 8 0x200000000], .badField, 0),
           (keyed, planOf [setOf 0 1 1 3 4 8 0xFFFC00000], .badField, 0),
           (keyed, planOf [setOf 0 1 1 1 4 8 0x200080000], .badField, 0),
           (keyed, planOf [setOf 0 1 1 0 4 8 0x200000000, setOf 1 3 1 0 5 8 0x0FFE00000], .overlap, 1),
           (keyed, planOf [setOf 0 1 1 0 4 8 0], .overlap, 0),
           (keyed, planOf [setOf 0 0x22 1 0 4 8 0x200000000], .dupSource, 0),
           (keyed, planOf ((List.range 6).map (fun i => setOf (3 + i) (1 + i) 1 0 4 8 (0x200000000 + 0x200000 * i))),
             .trackers, 0xFFFF),
           (keyed, planOf [setOf 2 0x22 1 0 4 1 0x100000000], .shrink, 0),
           (serving, planOf [setOf 2 0x22 2 0 4 2 0x100000000], .streamBusy, 0)],
      let s := withParcel w.1 (parcel 3 9 w.2.1)
      let p := taken s .plan
      s.dispatched .plan = some p ∧ s.plan.streams.length = 16
        ∧ @decide _ (planRefusedDec s (planCommon p.bytes) (planEntries p.bytes p.fields.length.toNat) w.2.2.1 w.2.2.2)
          = true := by decide +kernel

theorem test_witness_OwnersRefuse_revoked :
    let e : GrantEntry := { keyId := 8, revision := 1, padding := 0, wrapped := 0 }
    let r : Revocation := { keyId := 8, revision := 1, retainUntil := 9000, condition := .listed }
    (grantCommon (bytesOf (parcel 1 9 (grantBytes 0)))).isBad = false ∧ e.isBad = false
      ∧ findRevocation e.keyId (keyed.setRevocations [r]).revocations = some r ∧ r.condition = .listed
      ∧ e.revision ≤ r.revision := by decide +kernel

/-- A CLOSED key beside a GRANT, and a common part good with either not-before. -/
theorem test_witness_ExpiredOnArrival :
    let s := withParcel (withKey { key7 with state := .closed }) (parcel 1 9 (grantBytes 0))
    let c := grantCommon (taken s .grant).bytes
    c.isBad = false ∧ ({ c with notBefore := 4999 } : GrantCommon).isBad = false
      ∧ s.dispatched .grant = some (taken s .grant) ∧ (∃ t, exec .grant s = .next t)
      ∧ (s.key 0).map (fun k => k.state) = some .closed :=
  ⟨by decide +kernel, by decide +kernel, by decide +kernel, ⟨_, rfl⟩, by decide +kernel⟩

theorem test_witness_InternalAnswerResults :
    ∀ kind ∈ [InternalKind.recordWrite, .statusWrite, .identityWrite],
      (atMemory running 8 kind).power.main = .up
        ∧ (atMemory running 8 kind).internal.atMemory.find? (fun q => decide (q.tag = 8)) = some ⟨8, kind⟩ := by
  decide +kernel

/-- The two indices apart and equal, and the ends of two resets. -/
theorem test_witness_AttnFollowsIndices :
    (recordDue.power.main = .up ∧ recordDue.attn = true) ∧ (running.power.main = .up ∧ running.attn = false)
      ∧ (inReset.power.main = .inReset ∧ ∃ t, exec (.warmReset (.release 3)) inReset = .next t)
      ∧ (unpowered.power.main = .off ∧ ∃ t, exec (.coldPowerUp .asserted 3) unpowered = .next t) :=
  ⟨by decide +kernel, by decide +kernel, ⟨by decide +kernel, _, rfl⟩, by decide +kernel, _, rfl⟩

/-- Of KeyTableLawKept, RevocationLawKept, LeaseLawKept, FrameLawKept, TagLawKept, TripLawKept, BoundsKept, QueueLawKept
and ClockLawKept: lawful states, one TRIPPED, one in reset, with a command waiting or none, that step. -/
theorem test_witness_LawsKept :
    Lawful (serving.setPending [.tamperAssert]) ∧ Lawful tripped ∧ Lawful inReset
      ∧ Lawful (intakeAt busyIntake) ∧ Lawful (reading serving)
      ∧ (∃ t, step (serving.setPending [.tamperAssert]) = .next t) ∧ ∃ t, step tripped = .next t :=
  ⟨laws_of (by decide +kernel), laws_of (by decide +kernel), laws_of (by decide +kernel), laws_of (by decide +kernel),
    laws_of (by decide +kernel), ⟨_, rfl⟩, ⟨_, rfl⟩⟩

end Sys2Proof.Tests
end

section
/-! The passing of reference time: when each event of the clock is the next one, and what the clock's fields are after
it (R30, R31, R36, R37, R39, R44). -/

namespace Sys2Proof.Machine

/-! ## The commands of reference time -/

theorem exec_announcement_eq (s : State) : exec .announcement s = .next (s.standbyAct State.secondPasses) := rfl
theorem exec_slewForwardStep_eq (s : State) :
    exec .slewForwardStep s = .next (s.standbyAct State.forwardStepPasses) := rfl
theorem exec_holdBegin_eq (s : State) : exec .holdBegin s = .next (s.standbyAct State.holdBeginPasses) := rfl
theorem exec_backwardStep_eq (s : State) :
    exec .backwardStep s = .next (s.standbyAct State.backwardStepPasses) := rfl
theorem exec_time_eq (s : State) :
    exec .time s = .next (s.mainAct (fun s => s.ownerTakes .time State.takeTime)) := rfl

/-! ## The constants in units of 1/65536 s -/

theorem second_eq : Config.second = 65536 := rfl
theorem eighth_eq : Config.eighth = 8192 := rfl
theorem lastReading_eq : Config.lastReading = 72057594037927935 := rfl

theorem addReading_eq (r n : Nat) : addReading r n = min (r + n) 72057594037927935 := rfl

theorem Clock.seconds_eq (c : Clock) : c.seconds = c.reading / 65536 := rfl

/-! ## Which event is next -/

theorem untilSecond_eq_some {c : Clock} {d : Nat} :
    c.untilSecond = some d ↔
      c.hold = false ∧ c.reading + 65535 < 72057594037927935 ∧ d = 65536 - c.reading % 65536 := by
  unfold Clock.untilSecond Clock.fraction
  split
  · rename_i h
    rw [lastReading_eq, second_eq] at h
    rcases h with h | h
    · simp [h]
    · simp only [reduceCtorEq, false_iff]
      omega
  · rename_i h
    rw [lastReading_eq, second_eq] at h
    obtain ⟨h1, h2⟩ := not_or.mp h
    rw [Bool.not_eq_true] at h1
    simp only [second_eq, Option.some.injEq, h1, true_and]
    omega

theorem nextSlew_forward {c : Clock} (h : 8192 ≤ c.remainder) : c.nextSlew = some (.forwardStep, 524288) := by
  unfold Clock.nextSlew
  rw [if_pos (by simpa [eighth_eq] using h)]
  rfl

theorem nextSlew_backward {c : Clock} (h : c.remainder ≤ -8192) :
    c.nextSlew = if c.hold then some (.backwardStep, 4194304) else some (.holdBegin, 4186112) := by
  unfold Clock.nextSlew
  rw [if_neg (by simp only [eighth_eq]; omega), if_pos (by simpa [eighth_eq] using h)]
  rfl

theorem nextSlew_none {c : Clock} (h : -8192 < c.remainder) (h' : c.remainder < 8192) : c.nextSlew = none := by
  unfold Clock.nextSlew
  rw [if_neg (by simp only [eighth_eq]; omega), if_neg (by simp only [eighth_eq]; omega)]

/-- A slew event that comes next, with the step timer at which it is due, by the sign of the remainder and the hold. -/
theorem nextSlew_some {c : Clock} {e : SlewEvent} {due : Nat} (h : c.nextSlew = some (e, due)) :
    (8192 ≤ c.remainder ∧ e = .forwardStep ∧ due = 524288)
      ∨ (c.remainder ≤ -8192 ∧ c.hold = true ∧ e = .backwardStep ∧ due = 4194304)
      ∨ (c.remainder ≤ -8192 ∧ c.hold = false ∧ e = .holdBegin ∧ due = 4186112) := by
  by_cases hf : 8192 ≤ c.remainder
  · rw [nextSlew_forward hf] at h
    cases h
    exact .inl ⟨hf, rfl, rfl⟩
  · by_cases hb : c.remainder ≤ -8192
    · rw [nextSlew_backward hb] at h
      cases hh : c.hold <;> rw [hh] at h <;> cases h
      · exact .inr (.inr ⟨hb, rfl, rfl, rfl⟩)
      · exact .inr (.inl ⟨hb, rfl, rfl, rfl⟩)
    · rw [nextSlew_none (by omega) (by omega)] at h
      cases h

/-- A whole second is next: none of the slew's events falls before it (R47). -/
theorem secondIsNext_eq_some {c : Clock} {d : Nat} :
    c.secondIsNext = some d ↔
      c.untilSecond = some d ∧ ∀ e due, c.nextSlew = some (e, due) → d ≤ due - c.timer := by
  unfold Clock.secondIsNext Clock.untilSlew
  cases hs : c.untilSecond with
  | none => simp
  | some d' =>
    cases he : c.nextSlew with
    | none => simp
    | some p =>
      obtain ⟨e, due⟩ := p
      by_cases hd : d' ≤ due - c.timer
      · simp only [Option.map_some, if_pos hd, Option.some.injEq, Prod.mk.injEq]
        constructor
        · rintro rfl
          exact ⟨rfl, by rintro e' due' ⟨rfl, rfl⟩; exact hd⟩
        · exact fun h => h.1
      · simp only [Option.map_some, if_neg hd, Option.some.injEq, Prod.mk.injEq, reduceCtorEq, false_iff]
        rintro ⟨rfl, h⟩
        exact hd (h e due ⟨rfl, rfl⟩)

/-- No whole second is next: there is none to come, or a slew event falls before it. -/
theorem secondIsNext_eq_none {c : Clock} :
    c.secondIsNext = none ↔ ∀ d, c.untilSecond = some d → ∃ e due, c.nextSlew = some (e, due) ∧ due - c.timer < d := by
  constructor
  · intro h d hd
    by_contra hn
    have := (secondIsNext_eq_some (c := c) (d := d)).mpr
      ⟨hd, fun e due he => not_lt.mp (fun hlt => hn ⟨e, due, he, hlt⟩)⟩
    rw [h] at this
    cases this
  · intro h
    cases hs : c.secondIsNext with
    | none => rfl
    | some d =>
      obtain ⟨h1, h2⟩ := secondIsNext_eq_some.mp hs
      obtain ⟨e, due, he, hlt⟩ := h d h1
      exact absurd (h2 e due he) (by omega)

theorem slewIsNext_eq_some {c : Clock} {event : SlewEvent} {d : Nat} :
    c.slewIsNext event = some d ↔
      ∃ due, c.nextSlew = some (event, due) ∧ c.secondIsNext = none ∧ d = due - c.timer := by
  unfold Clock.slewIsNext
  cases he : c.nextSlew with
  | none => simp
  | some p =>
    obtain ⟨e, due⟩ := p
    by_cases h : e = event ∧ c.secondIsNext = none
    · obtain ⟨rfl, hn⟩ := h
      simp [hn, eq_comm]
    · simp only [if_neg h, reduceCtorEq, false_iff, Option.some.injEq, Prod.mk.injEq]
      rintro ⟨_, ⟨rfl, rfl⟩, hn, _⟩
      exact h ⟨rfl, hn⟩

/-! ## When the statements' conditions hold -/

theorem clockRuns_iff {s : State} : s.clockRuns = true ↔ s.power.markIntact = true ∧ s.clock.state ≠ .unset := by
  simp [State.clockRuns, State.standbyActs]

/-- SecondDue says that the next event is the whole second, d units away. -/
theorem secondDue_next {s : State} {d : Nat} (h : SecondDue s d) :
    s.clockRuns = true ∧ s.clock.secondIsNext = some d := by
  obtain ⟨hmark, hstate, hhold, hlast, hd, hforward, hbackward⟩ := h
  refine ⟨clockRuns_iff.mpr ⟨hmark, hstate⟩, secondIsNext_eq_some.mpr
    ⟨untilSecond_eq_some.mpr ⟨hhold, by omega, hd⟩, fun e due he => ?_⟩⟩
  rcases nextSlew_some he with ⟨hr, _, rfl⟩ | ⟨_, hh, _⟩ | ⟨hr, _, _, rfl⟩
  · have := hforward hr
    omega
  · rw [hhold] at hh
    cases hh
  · have := hbackward hr
    omega

/-- SlewDue says that the slew event that is next in line falls before the next whole second. -/
theorem slewDue_next {s : State} {event : SlewEvent} {due : Nat} (h : SlewDue s due)
    (he : s.clock.nextSlew = some (event, due)) :
    s.clockRuns = true ∧ s.clock.slewIsNext event = some (due - s.clock.timer) := by
  obtain ⟨hmark, hstate, _, _, hbefore⟩ := h
  refine ⟨clockRuns_iff.mpr ⟨hmark, hstate⟩, slewIsNext_eq_some.mpr ⟨due, he, ?_, rfl⟩⟩
  refine secondIsNext_eq_none.mpr (fun d hd => ⟨event, due, he, ?_⟩)
  obtain ⟨h1, h2, h3⟩ := untilSecond_eq_some.mp hd
  rcases hbefore with h | h | h
  · rw [h1] at h
    cases h
  · omega
  · omega

/-! ## What passes -/

theorem secondPasses_next {s : State} {d : Nat} (hr : s.clockRuns = true) (h : s.clock.secondIsNext = some d) :
    s.secondPasses = (s.setClock (s.clock.pass d)).announce .byTime := by
  simp [State.secondPasses, h, hr]

theorem holdBeginPasses_next {s : State} {d : Nat} (hr : s.clockRuns = true)
    (h : s.clock.slewIsNext .holdBegin = some d) :
    s.holdBeginPasses = s.setClock { s.clock.pass d with hold := true } := by
  simp [State.holdBeginPasses, h, hr]

theorem backwardStepPasses_next {s : State} {d : Nat} (hr : s.clockRuns = true)
    (h : s.clock.slewIsNext .backwardStep = some d) :
    s.backwardStepPasses = s.setClock (s.clock.pass d).stepBackward := by
  simp [State.backwardStepPasses, h, hr]

theorem forwardStepPasses_next {s : State} {d : Nat} (hr : s.clockRuns = true)
    (h : s.clock.slewIsNext .forwardStep = some d) :
    s.forwardStepPasses =
      if (s.clock.pass d).stepForward.seconds = (s.clock.pass d).seconds then s.setClock (s.clock.pass d).stepForward
      else (s.setClock (s.clock.pass d).stepForward).announce .byTime := by
  unfold State.forwardStepPasses
  rw [h]
  exact if_pos hr

/-- A clock that does not run has no event. -/
theorem passes_stopped {s : State} (h : s.clockRuns = false) :
    s.secondPasses = s ∧ s.forwardStepPasses = s ∧ s.holdBeginPasses = s ∧ s.backwardStepPasses = s := by
  unfold State.secondPasses State.forwardStepPasses State.holdBeginPasses State.backwardStepPasses
  simp only [h, Bool.false_eq_true, if_false]
  refine ⟨?_, ?_, ?_, ?_⟩ <;> split <;> rfl

theorem tick_stopped {s : State} (h : s.clockRuns = false) : s.tick = s := by
  obtain ⟨h1, h2, h3, h4⟩ := passes_stopped h
  unfold State.tick
  simp [h1, h2, h3, h4, h]

theorem tick_quiet {s : State} (hr : s.clockRuns = true) (hs : dueNow s.clock.secondIsNext = false)
    (hn : s.clock.nextSlew = none) : s.tick = s.setClock (s.clock.pass 1) := by
  have hslew : ∀ e, s.clock.slewIsNext e = none := fun e => by simp [Clock.slewIsNext, hn]
  unfold State.tick
  rw [hs, hslew, hslew, hslew]
  simp [hr, dueNow]

/-- Settles O2: on an empty queue the clock's tick is one unit of reference time, and with no slew and no whole second
within it only the reading moves. -/
theorem emptyQueuePassesTime : Obligations.EmptyQueuePassesTime := by
  intro s hp
  refine ⟨by simp [step, hp], fun h => ?_, fun hmark hstate hhold hrem hlast hsec => ?_⟩
  · have hr : s.clockRuns = false := by
      rcases h with h | h <;> simp [State.clockRuns, State.standbyActs, h]
    rw [State.idle, State.standbyAct, tick_stopped hr]
  · have hdue : dueNow s.clock.secondIsNext = false := by
      cases h : s.clock.secondIsNext with
      | none => rfl
      | some d =>
        obtain ⟨_, _, hd⟩ := untilSecond_eq_some.mp (secondIsNext_eq_some.mp h).1
        simp only [dueNow, decide_eq_false_iff_not]
        omega
    have hpass : s.clock.pass 1 = { s.clock with reading := s.clock.reading + 1 } := by
      simp only [Clock.pass, hhold, hrem, addReading_eq, Bool.false_eq_true, if_false, if_true]
      rw [Nat.min_eq_left (by omega)]
    rw [State.idle, State.standbyAct, tick_quiet (clockRuns_iff.mpr ⟨hmark, hstate⟩) hdue
      (nextSlew_none (by omega) (by omega)), hpass]

/-- Settles O14: each of the two events is the next one, and the clock's fields after it are those of the rule. -/
theorem backwardSlewResults : Obligations.BackwardSlewResults := by
  intro s hrem
  have hne : s.clock.remainder ≠ 0 := by omega
  refine ⟨fun hhold hdue => ?_, fun hhold hdue => ?_⟩
  · obtain ⟨hr, hnext⟩ := slewDue_next (event := .holdBegin) hdue (by rw [nextSlew_backward hrem]; simp [hhold])
    obtain ⟨_, _, htimer, _, _⟩ := hdue
    have hpass : { s.clock.pass (64 * 65536 - 8192 - s.clock.timer) with hold := true } =
        { s.clock with
          reading := min (s.clock.reading + (64 * 65536 - 8192 - s.clock.timer)) (2 ^ 56 - 1)
          timer := 64 * 65536 - 8192, hold := true } := by
      have ht : s.clock.timer + (64 * 65536 - 8192 - s.clock.timer) = 64 * 65536 - 8192 := by omega
      simp only [Clock.pass, hhold, hne, ht, addReading_eq, Bool.false_eq_true, if_false]
      rfl
    rw [exec_holdBegin_eq, State.standbyAct, holdBeginPasses_next hr hnext, hpass]
  · obtain ⟨hr, hnext⟩ := slewDue_next (event := .backwardStep) hdue (by rw [nextSlew_backward hrem]; simp [hhold])
    rw [exec_backwardStep_eq, State.standbyAct, backwardStepPasses_next hr hnext]
    congr 3
    unfold Clock.stepBackward Clock.dropSmall
    by_cases hb : s.clock.budget = 0
    · simp [Clock.pass, hhold, hb]
    · by_cases hsmall : -8192 < s.clock.remainder + 8192
      · have : (s.clock.remainder + 8192).natAbs < 8192 := by omega
        simp [Clock.pass, hhold, hb, eighth_eq, hsmall, this]
      · have : ¬ (s.clock.remainder + 8192).natAbs < 8192 := by omega
        simp [Clock.pass, hhold, hb, eighth_eq, hsmall, this]

end Sys2Proof.Machine
end

section
/-! TIME parcels: the clock's checks, the answer to the intake unit, and the outcomes that change nothing but the
discipline (R33, R34, R38, R41, R46). -/

namespace Sys2Proof.Machine

/-! ## The owner's answer -/

/-- A queue taken stays taken while the report writer makes its next request. -/
theorem takesHead_presentReport {t : State} {queue : List QueueEntry} (h : TakesHead t queue) :
    TakesHead t.presentReport queue := by
  have hwaiting : ∀ q ∈ t.internal.waiting, q ∈ t.presentReport.internal.waiting := by
    intro q hq
    unfold State.presentReport
    split
    · split
      · simp [State.handInternal, hq]
      · exact hq
    · exact hq
  cases queue with
  | nil => simpa [TakesHead, presentReport_intake] using h
  | cons e rest =>
    obtain ⟨hverifier, hqueue, q, hq, hkind⟩ := h
    exact ⟨presentReport_intake t ▸ hverifier, presentReport_intake t ▸ hqueue, q, hwaiting q hq, hkind⟩

/-- An IDLE verifier takes the head of its queue. -/
theorem takeHead_takesHead {s : State} (h : s.intake.verifier = .idle) : TakesHead s.takeHead s.intake.queue := by
  unfold State.takeHead
  rw [h]
  cases hq : s.intake.queue with
  | nil => exact ⟨h, hq⟩
  | cons e rest => exact ⟨rfl, rfl, _, List.mem_append_right _ (List.mem_singleton_self _), rfl⟩

theorem takeHead_commits (s : State) : s.takeHead.intake.commits = s.intake.commits := by
  unfold State.takeHead
  split <;> rfl

theorem takeHead_report (s : State) : s.takeHead.report = s.report := by
  unfold State.takeHead
  split <;> rfl

/-- The owner of a parcel is rid of it once the verification has ended and the next head is taken. -/
theorem ownerDone_of_takeHead {s u : State} (h : u.intake = { s.intake with verifier := .idle }) :
    OwnerDone s u.takeHead.presentReport := by
  refine ⟨?_, ?_⟩
  · rw [presentReport_intake, takeHead_commits, h]
  · have := takeHead_takesHead (s := u) (by rw [h])
    rw [h] at this
    exact takesHead_presentReport this

theorem answerTaken_ownerDone {s u : State} (h : u.intake = s.intake) (p : Dispatched) (data) :
    OwnerDone s (u.answerTaken p data).presentReport :=
  ownerDone_of_takeHead (by simp [State.endVerification, State.setVerifier, h])

theorem answerRefused_ownerDone {s u : State} (h : u.intake = s.intake) (p : Dispatched) (cause) (index) :
    OwnerDone s (u.answerRefused p cause index).presentReport :=
  ownerDone_of_takeHead (by simp [State.endVerification, State.setVerifier, State.refuseParcel, h])

theorem answerTaken_report (s : State) (p : Dispatched) (data) :
    (s.answerTaken p data).presentReport.report =
      s.report.stage (s.parcelTakenRecord p.fields.kind p.fields.number p.cell data) := by
  rw [presentReport_report, State.answerTaken, takeHead_report]
  rfl

theorem answerRefused_report (s : State) (p : Dispatched) (cause) (index) :
    (s.answerRefused p cause index).presentReport.report =
      s.report.stage (refusedRecord s p.fields p.cell cause index) := by
  rw [presentReport_report, State.answerRefused, takeHead_report]
  rfl

/-! ## The clock takes a dispatched parcel -/

theorem exec_time_taken {s : State} {p : Dispatched} (h : s.dispatched .time = some p) :
    exec .time s = .next (s.takeTime p).presentReport := by
  rw [exec_time_eq, mainAct_up (dispatched_up h), State.ownerTakes, h]

/-- The checks of R33 in the words of the statement on refusals. -/
theorem timeCheck_eq (s : State) (b : TimeBody) :
    s.timeCheck b =
      if s.trip.latch ≠ .normal ∧ ¬ (b.resync = true ∧ b.clearTrip = true) then some RefusalCause.tripped
      else if 2 ^ 40 ≤ b.seconds ∨ 4 ≤ b.flags ∨ (b.clearTrip = true ∧ b.resync = false) ∨ b.padding ≠ 0 then
        some .badField
      else if s.clock.state = .unset ∧ b.resync = false then some .clockUnset
      else if b.clearTrip = true ∧ s.trip.tamper = .asserted then some .tamperActive
      else none := by
  unfold State.timeCheck State.bodyCheck
  simp only [State.isTripped, decide_eq_true_eq, Bool.not_eq_true]

theorem timePasses_iff {s : State} {b : TimeBody} : TimePasses s b ↔ s.timeCheck b = none := by
  have htamper : s.trip.tamper = .deasserted ↔ ¬ s.trip.tamper = .asserted := by cases s.trip.tamper <;> simp
  have hresync : b.resync = true ↔ ¬ b.resync = false := by simp
  rw [timeCheck_eq]
  unfold TimePasses
  rw [htamper]
  split
  · rename_i h
    simp only [reduceCtorEq, iff_false]
    exact fun ⟨hlatch, _⟩ => hlatch.elim h.1 h.2
  · rename_i hlatch
    split
    · rename_i h
      simp only [reduceCtorEq, iff_false]
      rintro ⟨_, hsec, hflags, hclear, hpad, _⟩
      rcases h with h | h | ⟨h, h'⟩ | h
      · exact absurd hsec (not_lt.mpr h)
      · exact absurd hflags (not_lt.mpr h)
      · rw [hclear h] at h'
        cases h'
      · exact h hpad
    · rename_i hbody
      split
      · rename_i h
        simp only [reduceCtorEq, iff_false]
        rintro ⟨_, _, _, _, _, hunset, _⟩
        rw [hunset h.1] at h
        cases h.2
      · rename_i hunset
        split
        · rename_i h
          simp only [reduceCtorEq, iff_false]
          exact fun ⟨_, _, _, _, _, _, hclear⟩ => hclear h.1 h.2
        · rename_i hclear
          simp only [not_or, not_and, not_le, not_not] at hbody hunset hclear
          obtain ⟨hsec, hflags, hpair, hpad⟩ := hbody
          refine iff_of_true ⟨?_, hsec, hflags, fun h => hresync.mpr (hpair h), hpad,
            fun h => hresync.mpr (hunset h), hclear⟩ rfl
          exact or_iff_not_imp_left.mpr (fun h => by_contra fun hb => hlatch ⟨h, hb⟩)

/-- T in units of 1/65536 s, and its offset from the reading (R34). -/
theorem reading_eq (b : TimeBody) : b.reading = 65536 * b.seconds + b.fraction := rfl

theorem timeOffset_eq (s : State) (b : TimeBody) :
    s.timeOffset b = ((65536 * b.seconds + b.fraction : Nat) : Int) - s.clock.reading := rfl

/-- The fraction of T is a field of two bytes. -/
theorem timeBody_fraction_lt (bytes : List Byte) : (timeBody bytes).fraction < 65536 := field_lt bytes 24 2

theorem weigh_eq (c : Clock) (d : Int) :
    c.weigh d =
      if 5662310400 < d then .suspect else if 3932160 ≤ d then .jump else if 0 < d then .slewForward
      else if d = 0 then .noChange else if -(8192 * c.budget : Int) ≤ d then .slewBackward else .suspect := rfl

theorem weigh_suspect_iff {c : Clock} {d : Int} :
    c.weigh d = .suspect ↔ 86400 * 65536 < d ∨ d < -(8192 * c.budget : Int) := by
  rw [weigh_eq]
  repeat' split
  all_goals simp only [reduceCtorEq, false_iff, true_iff]; omega

theorem weigh_jump {c : Clock} {d : Int} (h : 60 * 65536 ≤ d) (h' : d ≤ 86400 * 65536) : c.weigh d = .jump := by
  rw [weigh_eq, if_neg (by omega), if_pos (by omega)]

theorem weigh_slews {c : Clock} {d : Int} (low : -(8192 * c.budget : Int) ≤ d) (high : d < 60 * 65536) :
    (0 < d ∧ c.weigh d = .slewForward) ∨ (d = 0 ∧ c.weigh d = .noChange) ∨ (d < 0 ∧ c.weigh d = .slewBackward) := by
  rw [weigh_eq, if_neg (by omega), if_neg (by omega)]
  rcases lt_trichotomy d 0 with h | h | h
  · rw [if_neg h.le.not_gt, if_neg h.ne, if_pos low]
    exact .inr (.inr ⟨h, rfl⟩)
  · rw [if_neg h.le.not_gt, if_pos h]
    exact .inr (.inl ⟨h, rfl⟩)
  · rw [if_pos h]
    exact .inl ⟨h, rfl⟩

/-- A parcel that meets an assertion of TAMPER_N under it is the one that the model draws for (R180, log 32). -/
theorem meetsTamper_iff {s : State} {b : TimeBody} : MeetsTamper s b ↔ s.meetsTamper b = true := by
  simp only [MeetsTamper, State.meetsTamper, State.thirdSuspect, Bool.and_eq_true, decide_eq_true_eq,
    weigh_suspect_iff, timeOffset_eq]
  refine and_congr_right (fun hlatch => ?_)
  have hbody : s.clock.state = .running → b.resync = false →
      (s.bodyCheck b = none ↔ b.seconds < 2 ^ 40 ∧ b.flags < 4 ∧ b.clearTrip = false ∧ b.padding = 0) := by
    intro hstate hresync
    unfold State.bodyCheck
    cases hclear : b.clearTrip
    · simp [hstate, hresync]
    · simp [hresync]
  constructor
  · rintro ⟨h1, h2, h3, h4, h5, h6, h7, h8⟩
    exact ⟨(hbody h6 h4).mpr ⟨h1, h2, h3, h5⟩, h4, h6, h8, h7⟩
  · rintro ⟨h1, h4, h6, h8, h7⟩
    obtain ⟨h1, h2, h3, h5⟩ := (hbody h6 h4).mp h1
    exact ⟨h1, h2, h3, h4, h5, h6, h7, h8⟩

/-- A parcel that passes the checks is no third SUSPECT entry under an assertion of TAMPER_N. -/
theorem passes_not_meetsTamper {s : State} {b : TimeBody} (h : TimePasses s b) : s.meetsTamper b = false := by
  rw [← Bool.not_eq_true, ← meetsTamper_iff]
  rintro ⟨hlatch, _, _, _, hresync, _⟩
  rcases h.1 with h | ⟨h, _⟩
  · rw [h] at hlatch
    cases hlatch
  · rw [h] at hresync
    cases hresync

theorem takeTime_refused {s : State} {p : Dispatched} {cause : RefusalCause}
    (hmeets : s.meetsTamper (timeBody p.bytes) = false) (h : s.timeCheck (timeBody p.bytes) = some cause) :
    s.takeTime p = s.answerRefused p cause noIndex := by
  unfold State.takeTime
  simp [hmeets, h]

theorem takeTime_passes {s : State} {p : Dispatched} (h : TimePasses s (timeBody p.bytes)) :
    s.takeTime p = s.timeTaken p := by
  unfold State.takeTime
  simp [passes_not_meetsTamper h, timePasses_iff.mp h]

/-- What the clock answers for a correction: the state after its outcome, then TAKEN (R34, R46). -/
theorem timeTaken_correction {s : State} {p : Dispatched} {d : Int} (hd : s.timeOffset (timeBody p.bytes) = d)
    (hresync : (timeBody p.bytes).resync = false) :
    s.timeTaken p =
      (s.correct (s.clock.weigh d) (timeBody p.bytes).reading d p.fields.number).answerTaken p
        (timeData (s.clock.weigh d) d) := by
  simp [State.timeTaken, State.applyTime, State.timeOutcome, hresync, hd]

/-- The PARCEL_TAKEN record of a TIME parcel, in the words of the statements (R46). -/
theorem parcelTakenRecord_time {s u : State} {p : Dispatched} {outcome : TimeOutcome} {seconds : BitVec 40}
    (h : u.recordSeconds = seconds) :
    u.parcelTakenRecord p.fields.kind p.fields.number p.cell
        (timeData outcome (s.timeOffset (timeBody p.bytes))) =
      timeRecord s p (outcome.code.setWidth 32) seconds := by
  simp only [State.parcelTakenRecord, h]
  rfl

/-- A TIME parcel that is taken with its own outcome: what stands in every statement on one. -/
theorem exec_time_passes {s : State} {p : Dispatched} (hp : s.dispatched .time = some p)
    (h : TimePasses s (timeBody p.bytes)) : exec .time s = .next (s.timeTaken p).presentReport := by
  rw [exec_time_taken hp, takeTime_passes h]

/-- The discipline alone is changed, and the parcel is taken (R38, R41). -/
theorem correction_of_setClock {s : State} {p : Dispatched} {c : Clock} {outcome : TimeOutcome}
    (hcorrect : s.timeTaken p =
      (s.setClock c).answerTaken p (timeData outcome (s.timeOffset (timeBody p.bytes))))
    (hreading : c.reading = s.clock.reading) (hstate : c.state = s.clock.state) :
    let t := (s.timeTaken p).presentReport
    t.clock = c ∧ t.report = s.report.stage (timeRecord s p (outcome.code.setWidth 32) s.recordSeconds)
      ∧ OwnerDone s t ∧ Touches [.clock, .counters, .waiting, .intake, .report] s t := by
  have hseconds : (s.setClock c).recordSeconds = s.recordSeconds := by
    simp [State.recordSeconds, State.nowSeconds, Clock.seconds, hreading, hstate]
  dsimp only
  rw [hcorrect]
  refine ⟨?_, ?_, answerTaken_ownerDone (State.setClock_intake s c) p _, ?_⟩
  · rw [presentReport_clock]
    exact answerTaken_touches (s.setClock c) p _ .clock (by simp)
  · rw [answerTaken_report, parcelTakenRecord_time hseconds, State.setClock_report]
  · exact touches_then (touches_then (touches_of (setClock_touches s c) rfl) (answerTaken_touches _ p _) rfl)
      (presentReport_touches _) rfl

/-- Settles O15: the checks are those of the model in the same order, and the refusal is the owner's answer alone. -/
theorem timeRefused : Obligations.TimeRefused := by
  intro s p cause hp hcheck hmeets
  have hmeets' : s.meetsTamper (timeBody p.bytes) = false := by
    rw [← Bool.not_eq_true, ← meetsTamper_iff]
    exact hmeets
  have hcheck' : s.timeCheck (timeBody p.bytes) = some cause := by rw [timeCheck_eq]; exact hcheck
  refine ⟨(s.answerRefused p cause noIndex).presentReport, ?_, answerRefused_report s p cause noIndex,
    answerRefused_ownerDone rfl p cause noIndex, ?_⟩
  · rw [exec_time_taken hp, takeTime_refused hmeets' hcheck']
  · exact touches_then (touches_of (answerRefused_touches s p cause _) rfl) (presentReport_touches _) rfl

/-- The discipline that a correction by slewing leaves, in the words of the statement (R38). -/
theorem startSlew_eq (c : Clock) (d : Int) :
    c.startSlew d =
      if d.natAbs < 8192 then { c with remainder := 0, timer := 0, hold := false }
      else
        { c with
          remainder := d
          timer := if (0 < c.remainder ∧ 0 < d) ∨ (c.remainder < 0 ∧ d < 0) then c.timer else 0
          hold := c.hold && decide (d < 0) } := by
  simp only [Clock.startSlew, Clock.dropSmall, sameSign, decide_eq_true_eq, eighth_eq]

/-- Settles O17: between the backward budget and 60 s the outcome is a slew or no change, and each replaces the
discipline alone. -/
theorem timeSlews : Obligations.TimeSlews := by
  intro s p hp
  dsimp only
  intro hpass hresync _ hlow hhigh
  generalize hd : ((65536 * (timeBody p.bytes).seconds + (timeBody p.bytes).fraction : Nat) : Int)
    - s.clock.reading = d at hlow hhigh ⊢
  have hoff : s.timeOffset (timeBody p.bytes) = d := (timeOffset_eq s _).trans hd
  have key : ∃ outcome : TimeOutcome, s.clock.weigh d = outcome
      ∧ s.correct outcome (timeBody p.bytes).reading d p.fields.number = s.setClock (s.clock.startSlew d)
      ∧ outcome.code.setWidth 32 = (if 0 < d then 2 else if d = 0 then 3 else 4 : BitVec 32) := by
    rcases weigh_slews hlow hhigh with ⟨h, hw⟩ | ⟨rfl, hw⟩ | ⟨h, hw⟩
    · exact ⟨_, hw, rfl, by rw [if_pos h]; rfl⟩
    · exact ⟨_, hw, rfl, rfl⟩
    · exact ⟨_, hw, rfl, by rw [if_neg h.le.not_gt, if_neg h.ne]; rfl⟩
  obtain ⟨outcome, hweigh, hcorrect, hcode⟩ := key
  obtain ⟨hclock, hreport, hdone, htouch⟩ := correction_of_setClock (s := s) (p := p) (outcome := outcome)
    (c := s.clock.startSlew d) (by rw [timeTaken_correction hoff hresync, hweigh, hcorrect, hoff])
    (by rw [startSlew_eq]; split <;> rfl) (by rw [startSlew_eq]; split <;> rfl)
  exact ⟨_, exec_time_passes hp hpass, hclock.trans (startSlew_eq _ _), hcode ▸ hreport, hdone, htouch⟩

/-- Settles O19: the outcome SUSPECT of a SUSPECT clock clears the discipline and nothing else (R41). -/
theorem timeSuspectsAgain : Obligations.TimeSuspectsAgain := by
  intro s p hp
  dsimp only
  intro hpass hresync hstate hfar
  have hweigh : s.clock.weigh (s.timeOffset (timeBody p.bytes)) = .suspect := weigh_suspect_iff.mpr hfar
  have htaken : s.timeTaken p = (s.setClock s.clock.clearDiscipline).answerTaken p
      (timeData .suspect (s.timeOffset (timeBody p.bytes))) := by
    rw [timeTaken_correction rfl hresync, hweigh]
    simp [State.correct, hstate]
  exact ⟨_, exec_time_passes hp hpass, correction_of_setClock htaken rfl rfl⟩

end Sys2Proof.Machine
end

section
/-! What the commands do to the clock: one inversion lemma, from which follow that the reading never decreases and that
the clock keeps its law (R29, R30, R36, R37, R39, R44, R172). -/

namespace Sys2Proof.Machine

/-! ## The screening day -/

/-- The clock once the screening day is evaluated (R44). -/
def Clock.evaluated (c : Clock) : Clock :=
  if c.state ≠ .unset ∧ c.day < c.computedDay then c.beginDay c.computedDay else c

theorem computedDay_eq (c : Clock) : c.computedDay = dayNumber (c.reading / 65536) c.dayOffset := rfl

theorem evaluateDay_clock (s : State) (cause : DayCause) : (s.evaluateDay cause).clock = s.clock.evaluated := by
  unfold State.evaluateDay Clock.evaluated
  dsimp only
  split
  · split
    · rw [State.handOver_clock]
      exact dailyReload_touches _ .clock (by simp)
    · rfl
  · rfl

/-- The evaluation of the day moves the stored day, the budget and the SUSPECT count alone. -/
theorem evaluated_fields (c : Clock) :
    c.evaluated.reading = c.reading ∧ c.evaluated.state = c.state ∧ c.evaluated.remainder = c.remainder
      ∧ c.evaluated.timer = c.timer ∧ c.evaluated.hold = c.hold ∧ c.evaluated.dayOffset = c.dayOffset := by
  unfold Clock.evaluated
  split <;> exact ⟨rfl, rfl, rfl, rfl, rfl, rfl⟩

theorem evaluated_reading (c : Clock) : c.evaluated.reading = c.reading := (evaluated_fields c).1

theorem evaluated_state (c : Clock) : c.evaluated.state = c.state := (evaluated_fields c).2.1

theorem evaluated_dayFields {c : Clock} (h : c.state ≠ .unset) :
    c.evaluated.dayFields =
      dayEvaluated (c.reading / 65536) c.dayOffset c.day c.budget c.suspectCount := by
  unfold Clock.evaluated dayEvaluated
  rw [computedDay_eq]
  by_cases hd : c.day < dayNumber (c.reading / 65536) c.dayOffset
  · rw [if_pos ⟨h, hd⟩, if_pos hd]
    rfl
  · rw [if_neg (fun hc => hd hc.2), if_neg hd]
    rfl

/-- The two units of the main domain take an announcement without the clock. -/
theorem mainAnnounced_leaves_clock (s : State) :
    Touches [.leases, .keys, .revocations, .report, .draws] s s.mainAnnounced := by
  unfold State.mainAnnounced
  dsimp only
  split
  · exact touches_then (touches_then (touches_of (setDraws_touches s _) rfl) (keysAnnounced_touches _) rfl)
      (leasesAnnounced_touches _) rfl
  · exact touches_then (touches_then (touches_of (setDraws_touches s _) rfl) (leasesAnnounced_touches _) rfl)
      (keysAnnounced_touches _) rfl

/-- What stands when the day is evaluated at the end of an announcement. -/
def State.announced (s : State) : State := (if s.mainUp then s.mainAnnounced else s).revocationsAnnounced

theorem announce_eq (s : State) (cause : DayCause) : s.announce cause = s.announced.evaluateDay cause := rfl

theorem announced_touches (s : State) : Touches [.leases, .keys, .revocations, .report, .draws] s s.announced := by
  unfold State.announced
  refine touches_then ?_ (revocationsAnnounced_touches _) rfl
  split
  · exact mainAnnounced_leaves_clock s
  · exact touches_refl _ s

theorem announced_clock (s : State) : s.announced.clock = s.clock := announced_touches s .clock (by simp)

theorem announced_power (s : State) : s.announced.power = s.power := announced_touches s .power (by simp)

theorem announce_clock (s : State) (cause : DayCause) : (s.announce cause).clock = s.clock.evaluated := by
  rw [announce_eq, evaluateDay_clock, announced_clock]

/-! ## What reference time does to the clock -/

/-- What the passing of reference time, up to an event or by one unit without one, can make of a clock. -/
inductive Clock.Passes (c : Clock) : Clock → Prop
  | nothing : Passes c c
  | second {d : Nat} (next : c.secondIsNext = some d) : Passes c (c.pass d).evaluated
  | forward {d : Nat} (next : c.slewIsNext .forwardStep = some d) : Passes c (c.pass d).stepForward
  | forwardAnnounced {d : Nat} (next : c.slewIsNext .forwardStep = some d) : Passes c (c.pass d).stepForward.evaluated
  | hold {d : Nat} (next : c.slewIsNext .holdBegin = some d) : Passes c { c.pass d with hold := true }
  | backward {d : Nat} (next : c.slewIsNext .backwardStep = some d) : Passes c (c.pass d).stepBackward
  | unit (second : ∀ d, c.secondIsNext = some d → 1 < d) (slew : ∀ e d, c.slewIsNext e = some d → 1 < d) :
      Passes c (c.pass 1)

theorem secondPasses_passes (s : State) : s.clock.Passes s.secondPasses.clock := by
  by_cases hr : s.clockRuns = true
  · cases hn : s.clock.secondIsNext with
    | none => simpa [State.secondPasses, hn] using Clock.Passes.nothing
    | some d =>
      rw [secondPasses_next hr hn, announce_clock]
      exact .second hn
  · rw [(passes_stopped (Bool.not_eq_true _ ▸ hr)).1]
    exact .nothing

theorem forwardStepPasses_passes (s : State) : s.clock.Passes s.forwardStepPasses.clock := by
  by_cases hr : s.clockRuns = true
  · cases hn : s.clock.slewIsNext .forwardStep with
    | none => simpa [State.forwardStepPasses, hn] using Clock.Passes.nothing
    | some d =>
      rw [forwardStepPasses_next hr hn]
      split
      · exact .forward hn
      · rw [announce_clock]
        exact .forwardAnnounced hn
  · rw [(passes_stopped (Bool.not_eq_true _ ▸ hr)).2.1]
    exact .nothing

theorem holdBeginPasses_passes (s : State) : s.clock.Passes s.holdBeginPasses.clock := by
  by_cases hr : s.clockRuns = true
  · cases hn : s.clock.slewIsNext .holdBegin with
    | none => simpa [State.holdBeginPasses, hn] using Clock.Passes.nothing
    | some d =>
      rw [holdBeginPasses_next hr hn]
      exact .hold hn
  · rw [(passes_stopped (Bool.not_eq_true _ ▸ hr)).2.2.1]
    exact .nothing

theorem backwardStepPasses_passes (s : State) : s.clock.Passes s.backwardStepPasses.clock := by
  by_cases hr : s.clockRuns = true
  · cases hn : s.clock.slewIsNext .backwardStep with
    | none => simpa [State.backwardStepPasses, hn] using Clock.Passes.nothing
    | some d =>
      rw [backwardStepPasses_next hr hn]
      exact .backward hn
  · rw [(passes_stopped (Bool.not_eq_true _ ▸ hr)).2.2.2]
    exact .nothing

theorem dueNow_false {o : Option Nat} (h : ¬ dueNow o = true) : ∀ d, o = some d → 1 < d := by
  rintro d rfl
  simpa [dueNow] using h

theorem tick_passes (s : State) : s.clock.Passes s.tick.clock := by
  unfold State.tick
  split
  · exact secondPasses_passes s
  · rename_i hsecond
    split
    · exact forwardStepPasses_passes s
    · rename_i hforward
      split
      · exact holdBeginPasses_passes s
      · rename_i hhold
        split
        · exact backwardStepPasses_passes s
        · rename_i hbackward
          split
          · refine .unit (dueNow_false hsecond) (fun e => ?_)
            cases e
            · exact dueNow_false hforward
            · exact dueNow_false hhold
            · exact dueNow_false hbackward
          · exact .nothing

/-! ## What a TIME parcel does to the clock -/

/-- The clock after a correction of an outcome (R34, R35, R38, R40, R41). -/
def Clock.corrected (c : Clock) (reading : Nat) (d : Int) : TimeOutcome → Clock
  | .jump => ({ c.clearDiscipline with reading := reading } : Clock).evaluated
  | .slewForward => c.startSlew d
  | .slewBackward => c.startSlew d
  | .noChange => c.clearDiscipline
  | .suspect =>
    if c.state = .running then
      { c.clearDiscipline with state := .suspect, suspectCount := min (c.suspectCount + 1) 3 }
    else c.clearDiscipline
  | .resync => c

/-- The clock that a RESYNC sets, before the day is evaluated (R42). -/
def Clock.resynced (c : Clock) (reading : Nat) : Clock :=
  { c.clearDiscipline with reading := reading, budget := Config.fullBudget, state := .running }

/-- The clock once the latch is cleared with it (R179). -/
def Clock.tripCleared (c : Clock) (latch : Latch) : Clock :=
  { c with suspectCount := if latch = .normal then c.suspectCount else 0 }

theorem holdNotice_clock (s : State) : s.holdNotice.clock = s.clock := holdNotice_touches s .clock (by simp)

theorem takeCause_clock (s : State) (cause : TripCause) (n : BitVec 32) : (s.takeCause cause n).clock = s.clock :=
  takeCause_touches s cause n .clock (by simp)

theorem enterSuspect_clock (s : State) (n : BitVec 32) :
    (s.enterSuspect n).clock =
      { s.clock.clearDiscipline with state := .suspect, suspectCount := min (s.clock.suspectCount + 1) 3 } := by
  unfold State.enterSuspect
  dsimp only
  split
  · rw [takeCause_clock, holdNotice_clock]
    rfl
  · rw [holdNotice_clock]
    rfl

theorem correct_clock (s : State) (o : TimeOutcome) (r : Nat) (d : Int) (n : BitVec 32) :
    (s.correct o r d n).clock = s.clock.corrected r d o := by
  cases o with
  | jump => exact announce_clock _ _
  | slewForward => rfl
  | slewBackward => rfl
  | noChange => rfl
  | suspect =>
    simp only [State.correct, Clock.corrected]
    split
    · exact enterSuspect_clock s n
    · rfl
  | resync => rfl

theorem resync_clock (s : State) (r : Nat) (n : BitVec 32) :
    (s.resync r n).clock = (s.clock.resynced r).evaluated := by
  unfold State.resync
  dsimp only
  rw [announce_clock, resumeNotice_touches _ .clock (by simp)]
  split <;> rfl

theorem clearTrip_clock (s : State) (n : BitVec 32) : (s.clearTrip n).clock = s.clock.tripCleared s.trip.latch := by
  unfold State.clearTrip Clock.tripCleared
  cases s.trip.latch <;> simp

/-- A RESYNC with CLEAR_TRIP clears the latch and the count before it sets the clock (R43). -/
theorem applyTime_resync {s : State} {b : TimeBody} {n : BitVec 32} (h : b.resync = true) :
    s.applyTime b n = (if b.clearTrip then s.clearTrip n else s).resync b.reading n := by
  simp [State.applyTime, h]

theorem applyTime_correction {s : State} {b : TimeBody} {n : BitVec 32} (h : b.resync = false) :
    s.applyTime b n = s.correct (s.clock.weigh (s.timeOffset b)) b.reading (s.timeOffset b) n := by
  simp [State.applyTime, h]

/-! ## The latch -/

theorem isTripped_eq {s t : State} (h : t.trip = s.trip) : t.isTripped = s.isTripped := by
  simp [State.isTripped, h]

theorem tripBlocks_trip (s : State) : s.tripBlocks.trip = s.trip := tripBlocks_touches s .trip (by simp)

/-- A cause that is taken leaves the part TRIPPED. -/
theorem takeCause_trips (s : State) (cause : TripCause) (n : BitVec 32) : (s.takeCause cause n).isTripped = true := by
  have hlatched : (s.setLatch (.tripped cause)).isTripped = true := rfl
  unfold State.takeCause
  split
  · dsimp only
    split
    · rw [isTripped_eq (tripBlocks_trip _)]
      rfl
    · exact hlatched
  · rename_i recorded hrec
    have htripped : s.isTripped = true := by simp [State.isTripped, hrec]
    split
    · rw [isTripped_eq (tripBlocks_trip _)]
      exact htripped
    · exact htripped

theorem answerTaken_trip (s : State) (p : Dispatched) (data) : (s.answerTaken p data).trip = s.trip :=
  answerTaken_touches s p data .trip (by simp)

theorem answerTaken_clock (s : State) (p : Dispatched) (data) : (s.answerTaken p data).clock = s.clock :=
  answerTaken_touches s p data .clock (by simp)

theorem answerRefused_trip (s : State) (p : Dispatched) (cause) (index) :
    (s.answerRefused p cause index).trip = s.trip := answerRefused_touches s p cause index .trip (by simp)

theorem answerRefused_clock (s : State) (p : Dispatched) (cause) (index) :
    (s.answerRefused p cause index).clock = s.clock := answerRefused_touches s p cause index .clock (by simp)

/-- A correction never clears the latch. -/
theorem correct_keeps_tripped {s : State} {o : TimeOutcome} {r : Nat} {d : Int} {n : BitVec 32}
    (h : s.isTripped = true) : (s.correct o r d n).isTripped = true := by
  cases o with
  | jump => exact (isTripped_eq (jump_touches s r n .trip (by simp))).trans h
  | slewForward => exact h
  | slewBackward => exact h
  | noChange => exact h
  | suspect =>
    simp only [State.correct]
    split
    · unfold State.enterSuspect
      dsimp only
      split
      · exact takeCause_trips _ _ _
      · rw [isTripped_eq (holdNotice_touches _ .trip (by simp))]
        exact h
    · exact h
  | resync => exact h

/-! ## What a command does to the clock -/

/-- What a command can do to the clock and to the latch. -/
inductive ClockActs (s : State) (i : Instr) (t : State) : Prop
  /-- It leaves the clock, and the latch where it is TRIPPED. -/
  | leaves (clock : t.clock = s.clock) (latch : s.isTripped = true → t.isTripped = true)
  /-- Reference time passes. -/
  | passes (clock : s.clock.Passes t.clock) (trip : t.trip = s.trip)
  /-- A PLAN hands over a day offset (R45). -/
  | offset {offset : Nat} (bound : offset ≤ 86399)
      (clock : t.clock = ({ s.clock with dayOffset := offset } : Clock).evaluated) (trip : t.trip = s.trip)
  /-- A TIME parcel without RESYNC corrects the reading (R34). -/
  | corrects {b : TimeBody} {d : Int} (seconds : b.seconds < 2 ^ 40) (fraction : b.fraction < 65536)
      (offset : d = (b.reading : Int) - s.clock.reading)
      (clock : t.clock = s.clock.corrected b.reading d (s.clock.weigh d))
      (latch : s.isTripped = true → t.isTripped = true)
  /-- A TIME parcel with RESYNC sets the clock (R42, R43). -/
  | resyncs {p : Dispatched} {c : Clock} (command : i = .time) (parcel : s.dispatched .time = some p)
      (flag : (timeBody p.bytes).resync = true) (seconds : (timeBody p.bytes).seconds < 2 ^ 40)
      (cleared : c = s.clock ∨ c = s.clock.tripCleared s.trip.latch)
      (clock : t.clock = (c.resynced (timeBody p.bytes).reading).evaluated)
  /-- The standby domain is initialised (R29, R172). -/
  | starts (command : i = .standbyLoss ∨ ∃ tamper sel, i = .coldPowerUp tamper sel) (clock : t.clock = Clock.initial)
      (latch : t.isTripped = true)

theorem clockActs_of_touches {s t : State} {i : Instr} {bs : List Block} (h : Touches bs s t)
    (hclock : .clock ∉ bs) (htrip : .trip ∉ bs) : ClockActs s i t :=
  .leaves (h .clock hclock) (fun hs => (isTripped_eq (h .trip htrip)).trans hs)

/-- A command of the main domain that leaves the clock and the latch. -/
theorem clockActs_mainAct {s : State} {i : Instr} {bs : List Block} {act : State → State} (h : Touches bs s (act s))
    (hclock : .clock ∉ bs) (htrip : .trip ∉ bs) : ClockActs s i (s.mainAct act) :=
  clockActs_of_touches (bs := .counters :: .waiting :: bs)
    (mainAct_touches (fun b hb => h b (fun hb' => hb (by simp [hb']))) (by simp)) (by simpa using hclock)
    (by simpa using htrip)

/-- What an act does to the clock and the latch, the command does: the report writer's request touches neither. -/
theorem clockActs_presentReport {s t : State} {i : Instr} (h : ClockActs s i t) : ClockActs s i t.presentReport := by
  have hc := presentReport_clock t
  have ht := presentReport_trip t
  have hl := isTripped_eq ht
  cases h with
  | leaves clock latch => exact .leaves (hc.trans clock) (hl ▸ latch)
  | passes clock trip => exact .passes (hc ▸ clock) (ht.trans trip)
  | offset bound clock trip => exact .offset bound (hc.trans clock) (ht.trans trip)
  | corrects seconds fraction offset clock latch =>
    exact .corrects seconds fraction offset (hc.trans clock) (hl ▸ latch)
  | resyncs command parcel flag seconds cleared clock =>
    exact .resyncs command parcel flag seconds cleared (hc.trans clock)
  | starts command clock latch => exact .starts command (hc.trans clock) (hl ▸ latch)

theorem clockActs_standbyAct {s : State} {i : Instr} {act : State → State}
    (h : s.clock.Passes (act s).clock) (htrip : (act s).trip = s.trip) : ClockActs s i (s.standbyAct act) :=
  clockActs_presentReport (.passes h htrip)

/-- A body that passes the clock's checks holds a reading (R33). -/
theorem bodyCheck_seconds {s : State} {b : TimeBody} (h : s.bodyCheck b = none) : b.seconds < 2 ^ 40 := by
  unfold State.bodyCheck at h
  split at h
  · cases h
  · omega

theorem timeCheck_bodyCheck {s : State} {b : TimeBody} (h : s.timeCheck b = none) : s.bodyCheck b = none := by
  unfold State.timeCheck at h
  split at h
  · cases h
  · exact h

theorem timeTaken_clockActs {s u : State} {p : Dispatched} (hp : s.dispatched .time = some p)
    (hclock : u.clock = s.clock) (htrip : u.trip = s.trip) (hbody : s.bodyCheck (timeBody p.bytes) = none) :
    ClockActs s .time (u.timeTaken p) := by
  have hseconds := bodyCheck_seconds hbody
  have hc : (u.timeTaken p).clock = (u.applyTime (timeBody p.bytes) p.fields.number).clock :=
    answerTaken_clock _ p _
  have ht : (u.timeTaken p).trip = (u.applyTime (timeBody p.bytes) p.fields.number).trip := answerTaken_trip _ p _
  cases hr : (timeBody p.bytes).resync with
  | true =>
    rw [applyTime_resync hr, resync_clock] at hc
    refine .resyncs rfl hp hr hseconds ?_ hc
    split
    · exact .inr (by rw [clearTrip_clock, hclock, htrip])
    · exact .inl hclock
  | false =>
    rw [applyTime_correction hr] at hc ht
    rw [correct_clock, hclock] at hc
    refine .corrects hseconds (timeBody_fraction_lt _) ?_ hc (fun h => ?_)
    · rw [State.timeOffset, hclock]
    · rw [isTripped_eq ht]
      exact correct_keeps_tripped ((isTripped_eq htrip).trans h)

theorem takeTime_clockActs {s : State} {p : Dispatched} (hp : s.dispatched .time = some p) :
    ClockActs s .time (s.takeTime p) := by
  unfold State.takeTime
  dsimp only
  split
  · rename_i hmeets
    simp only [State.meetsTamper, State.thirdSuspect, Bool.and_eq_true, decide_eq_true_eq] at hmeets
    split
    · exact timeTaken_clockActs hp rfl rfl hmeets.2.1
    · exact .leaves (answerRefused_clock _ p _ _) (fun h => (isTripped_eq (answerRefused_trip _ p _ _)).trans h)
  · split
    · exact clockActs_of_touches (answerRefused_touches s p _ _) (by simp) (by simp)
    · rename_i hcheck
      exact timeTaken_clockActs hp rfl rfl (timeCheck_bodyCheck hcheck)

theorem takeTripTest_clockActs (s : State) (p : Dispatched) : ClockActs s .tripTest (s.takeTripTest p) := by
  refine .leaves (takeTripTest_touches s p .clock (by simp)) (fun h => ?_)
  unfold State.takeTripTest
  split
  · exact (isTripped_eq (answerRefused_trip s p _ _)).trans h
  · exact (isTripped_eq (answerTaken_trip _ p _)).trans (takeCause_trips _ _ _)

theorem takePlan_clockActs (s : State) (p : Dispatched) : ClockActs s .plan (s.takePlan p) := by
  unfold State.takePlan
  dsimp only
  split
  · exact clockActs_of_touches (answerRefused_touches s p _ _) (by simp) (by simp)
  · rename_i hcheck
    refine .offset (offset := (planCommon p.bytes).dayOffset) ?_ ?_
      ((answerTaken_trip _ p _).trans (applyPlan_touches s _ _ .trip (by simp)))
    · unfold State.planCheck at hcheck
      split at hcheck
      · cases hcheck
      · split at hcheck
        · cases hcheck
        · split at hcheck
          · cases hcheck
          · rename_i hbad
            simp only [PlanCommon.isBad, decide_eq_true_eq, not_or, not_lt] at hbad
            exact hbad.1
    · rw [answerTaken_clock, State.applyPlan, State.statusEvent_clock, retryHeads_touches _ .clock (by simp),
        State.takeDayOffset, evaluateDay_clock, State.setClock_clock, installPlan_touches s _ _ .clock (by simp)]

/-- An owner that takes its parcel, or finds none. -/
theorem ownerTakes_clockActs {s : State} {i : Instr} {kind : ParcelKind} {take : State → Dispatched → State}
    (h : ∀ p, s.dispatched kind = some p → ClockActs s i (take s p)) :
    ClockActs s i (s.mainAct (fun s => s.ownerTakes kind take)) := by
  unfold State.mainAct
  split
  · refine clockActs_presentReport ?_
    dsimp only [State.ownerTakes]
    split
    · exact h _ ‹_›
    · exact .leaves rfl id
  · exact .leaves rfl id

theorem assertReset_standby (s : State) : s.assertReset.clock = s.clock ∧ s.assertReset.trip = s.trip := by
  unfold State.assertReset
  split <;> exact ⟨rfl, rfl⟩

theorem releaseReset_standby (s : State) (sel : BitVec 2) :
    (s.releaseReset sel).clock = s.clock ∧ (s.releaseReset sel).trip = s.trip := by
  unfold State.releaseReset
  split <;> exact ⟨rfl, rfl⟩

theorem warmReset_standby (s : State) (line : ResetLine) :
    (s.warmReset line).clock = s.clock ∧ (s.warmReset line).trip = s.trip := by
  cases line with
  | assert => exact assertReset_standby s
  | release sel => exact releaseReset_standby s sel
  | pulse sel =>
    obtain ⟨hc, ht⟩ := assertReset_standby s
    obtain ⟨hc', ht'⟩ := releaseReset_standby s.assertReset sel
    exact ⟨hc'.trans hc, ht'.trans ht⟩

theorem loseMain_standby (s : State) : s.loseMain.clock = s.clock ∧ s.loseMain.trip = s.trip := by
  unfold State.loseMain
  split <;> exact ⟨rfl, rfl⟩

theorem clockActs_of_standby {s t : State} {i : Instr} (h : t.clock = s.clock ∧ t.trip = s.trip) :
    ClockActs s i t :=
  .leaves h.1 (fun hs => (isTripped_eq h.2).trans hs)

theorem powerUp_clockActs (s : State) (tamper : TamperLevel) (sel : BitVec 2) :
    ClockActs s (.coldPowerUp tamper sel) (s.powerUp tamper sel) := by
  unfold State.powerUp
  split
  · exact .leaves rfl id
  · split
    · exact .leaves rfl id
    · exact .starts (.inr ⟨tamper, sel, rfl⟩) rfl rfl

theorem loseStandby_clockActs (s : State) : ClockActs s .standbyLoss s.loseStandby := by
  unfold State.loseStandby
  split
  · exact .starts (.inl rfl) rfl rfl
  · exact .leaves rfl id

/-- A command that checks its burst answers the state of the check's first branch. -/
theorem next_of_check {c : Prop} [Decidable c] {u t : State} {r : Refusal}
    (h : (if c then Host.Outcome.next u else .refused r : Host.Outcome State Fault Refusal) = .next t) : t = u := by
  split at h
  · cases h
    rfl
  · cases h

theorem next_inj {u t : State} (h : (Host.Outcome.next u : Host.Outcome State Fault Refusal) = .next t) : t = u := by
  cases h
  rfl

/-- What each command does to the clock. -/
theorem exec_clockActs {i : Instr} {s t : State} (h : exec i s = .next t) : ClockActs s i t := by
  cases i with
  | readAccept request =>
    exact next_of_check h ▸ clockActs_mainAct (receive_touches s _) (by simp) (by simp)
  | writeAccept request =>
    exact next_of_check h ▸ clockActs_mainAct (receive_touches s _) (by simp) (by simp)
  | memoryPortGrant =>
    exact next_inj h ▸ clockActs_mainAct
      (touches_then (bs := [.counters, .entries, .port, .waiting, .atMemory, .report, .status, .indices])
        (touches_of (presentReport_touches s) rfl) (grantPort_touches _) rfl) (by simp) (by simp)
  | passThroughReadData tag beats =>
    exact next_of_check h ▸ clockActs_mainAct (passThroughData_touches s tag beats) (by simp) (by simp)
  | decision tag beats =>
    exact next_of_check h ▸ clockActs_mainAct (dataReturns_touches s tag beats) (by simp) (by simp)
  | writeAnswer tag response =>
    exact next_inj h ▸ clockActs_mainAct (writeAnswered_touches s tag response) (by simp) (by simp)
  | responseReturn source beats =>
    exact next_of_check h ▸ clockActs_mainAct (returnResponse_touches s source beats) (by simp) (by simp)
  | laneGrant => exact next_inj h ▸ clockActs_mainAct (arbitrateLanes_touches s) (by simp) (by simp)
  | laneComplete lane => exact next_of_check h ▸ clockActs_mainAct (completeLane_touches s lane) (by simp) (by simp)
  | verifierReadAnswer tag beats =>
    exact next_of_check h ▸ clockActs_mainAct (verifierReadAnswered_touches s tag beats) (by simp) (by simp)
  | tagCheckComplete => exact next_inj h ▸ clockActs_mainAct (completeTagCheck_touches s) (by simp) (by simp)
  | grant =>
    exact next_inj h ▸ ownerTakes_clockActs
      (fun p _ => clockActs_of_touches (takeGrant_touches s p) (by simp) (by simp))
  | revoke =>
    exact next_inj h ▸ ownerTakes_clockActs
      (fun p _ => clockActs_of_touches (takeRevoke_touches s p) (by simp) (by simp))
  | plan => exact next_inj h ▸ ownerTakes_clockActs (fun p _ => takePlan_clockActs s p)
  | time => exact next_inj h ▸ ownerTakes_clockActs (fun p hp => takeTime_clockActs hp)
  | tripTest => exact next_inj h ▸ ownerTakes_clockActs (fun p _ => takeTripTest_clockActs s p)
  | announcement =>
    exact next_inj h ▸ clockActs_standbyAct (secondPasses_passes s) (secondPasses_touches s .trip (by simp))
  | slewForwardStep =>
    exact next_inj h ▸ clockActs_standbyAct (forwardStepPasses_passes s) (forwardStepPasses_touches s .trip (by simp))
  | holdBegin =>
    exact next_inj h ▸ clockActs_standbyAct (holdBeginPasses_passes s) (holdBeginPasses_touches s .trip (by simp))
  | backwardStep =>
    exact next_inj h ▸ clockActs_standbyAct (backwardStepPasses_passes s)
      (backwardStepPasses_touches s .trip (by simp))
  | tamperAssert =>
    refine next_inj h ▸ clockActs_presentReport (.leaves (tamperAsserted_touches s .clock (by simp)) (fun hs => ?_))
    unfold State.tamperAsserted
    split
    · exact takeCause_trips _ _ _
    · exact hs
  | tamperDeassert =>
    refine next_inj h ▸ clockActs_presentReport (.leaves (tamperDeasserted_touches s .clock (by simp)) (fun hs => ?_))
    unfold State.tamperDeasserted
    split
    · exact hs
    · exact hs
  | warmReset line => exact next_inj h ▸ clockActs_of_standby (warmReset_standby s line)
  | coldPowerUp tamper sel => exact next_inj h ▸ powerUp_clockActs s tamper sel
  | vmainLoss => exact next_inj h ▸ clockActs_of_standby (loseMain_standby s)
  | identityWrite =>
    exact next_inj h ▸ clockActs_mainAct
      (touches_then (bs := [.counters, .port, .waiting, .atMemory, .report, .status, .indices])
        (touches_of (presentReport_touches s) rfl) (grantInternal_touches _ _) rfl) (by simp) (by simp)
  | statusWrite =>
    exact next_inj h ▸ clockActs_mainAct
      (touches_then (bs := [.counters, .port, .waiting, .atMemory, .report, .status, .indices])
        (touches_of (presentReport_touches s) rfl) (grantInternal_touches _ _) rfl) (by simp) (by simp)
  | recordWrite =>
    exact next_inj h ▸ clockActs_mainAct
      (touches_then (bs := [.counters, .port, .waiting, .atMemory, .report, .status, .indices])
        (touches_of (presentReport_touches s) rfl) (grantInternal_touches _ _) rfl) (by simp) (by simp)
  | recordWriteAnswer tag response =>
    exact next_inj h ▸ clockActs_mainAct (recordWriteAnswered_touches s tag response) (by simp) (by simp)
  | controlWriteAnswer tag response =>
    exact next_inj h ▸ clockActs_mainAct (controlWriteAnswered_touches s tag) (by simp) (by simp)
  | standbyLoss => exact next_inj h ▸ loseStandby_clockActs s

/-! ## The reading never decreases -/

theorem pass_reading_le {c : Clock} (h : c.reading ≤ 2 ^ 56 - 1) (t : Nat) : c.reading ≤ (c.pass t).reading := by
  simp only [Clock.pass, addReading_eq]
  split
  · exact le_rfl
  · omega

theorem dropSmall_reading (c : Clock) : c.dropSmall.reading = c.reading := by
  unfold Clock.dropSmall
  split <;> rfl

theorem stepForward_reading (c : Clock) : c.stepForward.reading = addReading c.reading 8192 := dropSmall_reading _

theorem stepBackward_reading (c : Clock) : c.stepBackward.reading = c.reading := by
  unfold Clock.stepBackward
  split
  · rfl
  · exact dropSmall_reading _

theorem passes_reading_le {c c' : Clock} (h : c.Passes c') (hc : c.reading ≤ 2 ^ 56 - 1) : c.reading ≤ c'.reading := by
  have hforward : ∀ d, c.reading ≤ (c.pass d).stepForward.reading := by
    intro d
    have := pass_reading_le hc d
    rw [stepForward_reading, addReading_eq]
    omega
  cases h with
  | nothing => exact le_rfl
  | second next => exact (pass_reading_le hc _).trans_eq (evaluated_reading _).symm
  | forward next => exact hforward _
  | forwardAnnounced next => exact (hforward _).trans_eq (evaluated_reading _).symm
  | hold next => exact pass_reading_le hc _
  | backward next => exact (pass_reading_le hc _).trans_eq (stepBackward_reading _).symm
  | unit second slew => exact pass_reading_le hc _

theorem startSlew_reading (c : Clock) (d : Int) : (c.startSlew d).reading = c.reading := by
  rw [startSlew_eq]
  split <;> rfl

/-- A correction moves the reading only by a jump, which lies ahead (R34, R35). -/
theorem corrected_reading_le (c : Clock) (reading : Nat) :
    c.reading ≤
      (c.corrected reading ((reading : Int) - c.reading) (c.weigh ((reading : Int) - c.reading))).reading := by
  have hjump : c.weigh ((reading : Int) - c.reading) = .jump → c.reading ≤ reading := by
    rw [weigh_eq]
    intro h
    split at h
    · cases h
    · split at h
      · omega
      · repeat' split at h
        all_goals cases h
  cases hw : c.weigh ((reading : Int) - c.reading) with
  | jump =>
    rw [Clock.corrected, evaluated_reading]
    exact hjump hw
  | slewForward => exact (startSlew_reading c _).ge
  | slewBackward => exact (startSlew_reading c _).ge
  | noChange => exact le_rfl
  | suspect =>
    simp only [Clock.corrected]
    split <;> exact le_rfl
  | resync => exact le_rfl

/-- Settles O21: of the six things a command can do to the clock only a RESYNC and the initialisation set it back. -/
theorem clockNeverDecreases : Obligations.ClockNeverDecreases := by
  intro s hs
  refine ⟨?_, fun c t h hloss hcold hresync => ?_⟩
  · rw [State.idle, State.standbyAct, presentReport_clock]
    exact passes_reading_le (tick_passes s) hs
  · cases exec_clockActs h with
    | leaves clock latch => exact clock ▸ le_rfl
    | passes clock trip => exact passes_reading_le clock hs
    | offset bound clock trip => rw [clock, evaluated_reading]
    | corrects seconds fraction offset clock latch =>
      subst offset
      exact clock ▸ corrected_reading_le s.clock _
    | resyncs command parcel flag seconds cleared clock =>
      rw [hresync command _ parcel] at flag
      cases flag
    | starts command clock latch =>
      rcases command with h | ⟨tamper, sel, h⟩
      · exact absurd h hloss
      · exact absurd h (hcold tamper sel)

/-! ## The law of the clock -/

/-- The ranges of the clock's fields (R29). -/
def Clock.lawful (c : Clock) : Prop :=
  c.reading ≤ Config.lastReading ∧ c.budget ≤ 48 ∧ c.suspectCount ≤ 3 ∧ c.day ≤ 12725829 ∧ c.dayOffset ≤ 86399
    ∧ c.disciplined

theorem clockLaw_iff {s : State} :
    ClockLaw s ↔ s.clock.lawful ∧ (s.clock.state = .unset → s.isTripped = true) := by
  simp only [ClockLaw, Clock.lawful, and_assoc]

/-- The discipline's three ranges: no slew, a forward one, a backward one. -/
theorem disciplined_iff {c : Clock} :
    c.disciplined ↔
      (c.remainder = 0 ∧ c.timer = 0 ∧ c.hold = false)
        ∨ (8192 ≤ c.remainder ∧ c.remainder < 3932160 ∧ c.hold = false ∧ c.timer ≤ 524288)
        ∨ (c.remainder ≤ -8192 ∧ -(8192 * c.budget : Int) ≤ c.remainder ∧ (c.hold = false → c.timer ≤ 4186112)
            ∧ (c.hold = true → c.timer ≤ 4194304)) := by
  unfold Clock.disciplined
  split
  · rename_i h
    simp [h]
  · rename_i hne
    split
    · constructor
      · exact fun ⟨h1, h2, h3, h4⟩ => .inr (.inl ⟨h1, h2, h3, h4⟩)
      · rintro (h | h | h)
        · omega
        · exact h
        · omega
    · cases hh : c.hold
      · simp
        omega
      · simp

theorem evaluated_lawful {c : Clock} (h : c.lawful) : c.evaluated.lawful := by
  obtain ⟨hread, hbudget, hcount, hday, hoffset, hdisc⟩ := h
  unfold Clock.evaluated
  split
  · refine ⟨hread, le_rfl, Nat.zero_le _, ?_, hoffset, disciplined_iff.mpr ?_⟩
    · rw [lastReading_eq] at hread
      simp only [Clock.beginDay, computedDay_eq, dayNumber]
      split <;> omega
    · rcases disciplined_iff.mp hdisc with h | h | ⟨h1, h2, h3⟩
      · exact .inl h
      · exact .inr (.inl h)
      · refine .inr (.inr ⟨h1, ?_, h3⟩)
        simp only [Clock.beginDay, Config.fullBudget]
        omega
  · exact ⟨hread, hbudget, hcount, hday, hoffset, hdisc⟩

theorem addReading_le (r n : Nat) : addReading r n ≤ Config.lastReading := Nat.min_le_right _ _

theorem pass_reading_lawful {c : Clock} (h : c.reading ≤ Config.lastReading) (t : Nat) :
    (c.pass t).reading ≤ Config.lastReading := by
  simp only [Clock.pass]
  split
  · exact h
  · exact addReading_le _ _

/-- Time that does not run past the slew's next event keeps the discipline. -/
theorem pass_lawful {c : Clock} {t : Nat} (h : c.lawful)
    (ht : ∀ e due, c.nextSlew = some (e, due) → c.timer + t ≤ due) : (c.pass t).lawful := by
  obtain ⟨hread, hbudget, hcount, hday, hoffset, hdisc⟩ := h
  refine ⟨pass_reading_lawful hread t, hbudget, hcount, hday, hoffset, disciplined_iff.mpr ?_⟩
  rcases disciplined_iff.mp hdisc with ⟨h1, h2, h3⟩ | ⟨h1, h2, h3, h4⟩ | ⟨h1, h2, h3, h4⟩
  · exact .inl ⟨h1, by simp [Clock.pass, h1, h2], h3⟩
  · have hne : c.remainder ≠ 0 := by omega
    exact .inr (.inl ⟨h1, h2, h3, by simpa [Clock.pass, hne] using ht _ _ (nextSlew_forward h1)⟩)
  · have hne : c.remainder ≠ 0 := by omega
    have hnext := nextSlew_backward h1
    refine .inr (.inr ⟨h1, h2, fun hh => ?_, fun hh => ?_⟩)
    · replace hh : c.hold = false := hh
      simpa [Clock.pass, hne] using ht _ _ (hnext.trans (by rw [hh]; rfl))
    · replace hh : c.hold = true := hh
      simpa [Clock.pass, hne] using ht _ _ (hnext.trans (by rw [hh]; rfl))

/-- A clock that keeps its law has not run past the slew's next event. -/
theorem timer_le_due {c : Clock} (h : c.disciplined) {e : SlewEvent} {due : Nat} (he : c.nextSlew = some (e, due)) :
    c.timer ≤ due := by
  rcases disciplined_iff.mp h with h | h | ⟨_, _, hfree, hheld⟩
  all_goals rcases nextSlew_some he with ⟨hr, _, rfl⟩ | ⟨hr, hh, _, rfl⟩ | ⟨hr, hh, _, rfl⟩
  case inl.inl | inl.inr.inl | inl.inr.inr => omega
  case inr.inl.inl | inr.inl.inr.inl | inr.inl.inr.inr => omega
  case inr.inr.inl => omega
  case inr.inr.inr.inl => exact hheld hh
  case inr.inr.inr.inr => exact hfree hh

theorem clearDiscipline_lawful {c : Clock} (h : c.lawful) : c.clearDiscipline.lawful := by
  obtain ⟨hread, hbudget, hcount, hday, hoffset, _⟩ := h
  exact ⟨hread, hbudget, hcount, hday, hoffset, disciplined_iff.mpr (.inl ⟨rfl, rfl, rfl⟩)⟩

theorem stepForward_lawful {c : Clock} (h : c.lawful) (hr : 8192 ≤ c.remainder) : c.stepForward.lawful := by
  obtain ⟨_, hbudget, hcount, hday, hoffset, hdisc⟩ := h
  have hrem : c.remainder < 3932160 ∧ c.hold = false := by
    rcases disciplined_iff.mp hdisc with h | h | h
    · omega
    · exact ⟨h.2.1, h.2.2.1⟩
    · omega
  unfold Clock.stepForward Clock.dropSmall
  dsimp only
  rw [eighth_eq]
  split
  · exact ⟨addReading_le _ _, hbudget, hcount, hday, hoffset, disciplined_iff.mpr (.inl ⟨rfl, rfl, rfl⟩)⟩
  · refine ⟨addReading_le _ _, hbudget, hcount, hday, hoffset, disciplined_iff.mpr (.inr (.inl ⟨?_, ?_, hrem.2, ?_⟩))⟩
    · dsimp only
      omega
    · dsimp only
      omega
    · exact Nat.zero_le _

theorem holdBegun_lawful {c : Clock} (h : c.lawful) (hr : c.remainder ≤ -8192) (ht : c.timer ≤ 4186112) :
    ({ c with hold := true } : Clock).lawful := by
  obtain ⟨hread, hbudget, hcount, hday, hoffset, hdisc⟩ := h
  refine ⟨hread, hbudget, hcount, hday, hoffset, disciplined_iff.mpr (.inr (.inr ⟨hr, ?_, by simp, fun _ => ?_⟩))⟩
  · rcases disciplined_iff.mp hdisc with h | h | h
    · omega
    · omega
    · exact h.2.1
  · exact ht.trans (by decide)

theorem stepBackward_lawful {c : Clock} (h : c.lawful) (hr : c.remainder ≤ -8192) : c.stepBackward.lawful := by
  have hclear := clearDiscipline_lawful h
  obtain ⟨hread, hbudget, hcount, hday, hoffset, hdisc⟩ := h
  have hpaid : -(8192 * c.budget : Int) ≤ c.remainder := by
    rcases disciplined_iff.mp hdisc with h | h | h
    · omega
    · omega
    · exact h.2.1
  unfold Clock.stepBackward
  split
  · exact hclear
  · unfold Clock.dropSmall
    dsimp only
    rw [eighth_eq]
    have hless : c.budget - 1 ≤ 48 := by omega
    split
    · exact ⟨hread, hless, hcount, hday, hoffset, disciplined_iff.mpr (.inl ⟨rfl, rfl, rfl⟩)⟩
    · refine ⟨hread, hless, hcount, hday, hoffset, disciplined_iff.mpr (.inr (.inr ⟨?_, ?_, ?_, ?_⟩))⟩
      · dsimp only
        omega
      · dsimp only
        omega
      · exact fun _ => Nat.zero_le _
      · exact fun _ => Nat.zero_le _

theorem passes_lawful {c c' : Clock} (h : c.Passes c') (hc : c.lawful) : c'.lawful := by
  have hdisc : c.disciplined := hc.2.2.2.2.2
  have hdue : ∀ {e d}, c.slewIsNext e = some d → (c.pass d).lawful
      ∧ ∃ due, c.nextSlew = some (e, due) ∧ (c.remainder ≠ 0 → (c.pass d).timer = due) := by
    intro e d hn
    obtain ⟨due, he, _, rfl⟩ := slewIsNext_eq_some.mp hn
    have hle := timer_le_due hdisc he
    refine ⟨pass_lawful hc (fun e' due' he' => ?_), due, he, fun hne => ?_⟩
    · rw [he] at he'
      cases he'
      omega
    · simp only [Clock.pass, if_neg hne]
      omega
  cases h with
  | nothing => exact hc
  | second next =>
    refine evaluated_lawful (pass_lawful hc (fun e due he => ?_))
    have := (secondIsNext_eq_some.mp next).2 e due he
    have := timer_le_due hdisc he
    omega
  | forward next =>
    obtain ⟨hpass, due, he, _⟩ := hdue next
    rcases nextSlew_some he with ⟨hr, _⟩ | ⟨_, _, h, _⟩ | ⟨_, _, h, _⟩
    · exact stepForward_lawful hpass hr
    · cases h
    · cases h
  | forwardAnnounced next =>
    obtain ⟨hpass, due, he, _⟩ := hdue next
    rcases nextSlew_some he with ⟨hr, _⟩ | ⟨_, _, h, _⟩ | ⟨_, _, h, _⟩
    · exact evaluated_lawful (stepForward_lawful hpass hr)
    · cases h
    · cases h
  | hold next =>
    obtain ⟨hpass, due, he, htimer⟩ := hdue next
    rcases nextSlew_some he with ⟨_, h, _⟩ | ⟨_, _, h, _⟩ | ⟨hr, _, _, rfl⟩
    · cases h
    · cases h
    · exact holdBegun_lawful hpass hr (htimer (by omega)).le
  | backward next =>
    obtain ⟨hpass, due, he, _⟩ := hdue next
    rcases nextSlew_some he with ⟨_, h, _⟩ | ⟨hr, _⟩ | ⟨_, _, h, _⟩
    · cases h
    · exact stepBackward_lawful hpass hr
    · cases h
  | unit second slew =>
    refine pass_lawful hc (fun e due he => ?_)
    have hle := timer_le_due hdisc he
    cases hs : c.secondIsNext with
    | none =>
      have := slew e _ (slewIsNext_eq_some.mpr ⟨due, he, hs, rfl⟩)
      omega
    | some d =>
      have := second d hs
      have := (secondIsNext_eq_some.mp hs).2 e due he
      omega

theorem startSlew_lawful {c : Clock} {d : Int} (h : c.lawful) (low : -(8192 * c.budget : Int) ≤ d)
    (high : d < 3932160) : (c.startSlew d).lawful := by
  have hclear := clearDiscipline_lawful h
  obtain ⟨hread, hbudget, hcount, hday, hoffset, hdisc⟩ := h
  rw [startSlew_eq]
  split
  · exact hclear
  · rename_i hbig
    refine ⟨hread, hbudget, hcount, hday, hoffset, disciplined_iff.mpr (.inr ?_)⟩
    rcases disciplined_iff.mp hdisc with ⟨h1, h2, h3⟩ | ⟨h1, h2, h3, h4⟩ | ⟨h1, h2, h3, h4⟩
    all_goals by_cases hd : 0 < d
    · exact .inl ⟨by dsimp only; omega, high, by simp [h3], by simp [h1]⟩
    · exact .inr ⟨by dsimp only; omega, low, by simp [h1], by simp [h1]⟩
    · exact .inl ⟨by dsimp only; omega, high, by simp [h3], by dsimp only; split <;> omega⟩
    · exact .inr ⟨by dsimp only; omega, low, by dsimp only; split <;> omega, by simp [h3]⟩
    · refine .inl ⟨by dsimp only; omega, high, ?_, by dsimp only; split <;> omega⟩
      have : ¬ d < 0 := by omega
      simp [this]
    · have hneg : d < 0 := by omega
      have hsame : (0 < c.remainder ∧ 0 < d) ∨ (c.remainder < 0 ∧ d < 0) := by omega
      rw [if_pos hsame, decide_eq_true hneg, Bool.and_true]
      exact .inr ⟨by dsimp only; omega, low, h3, h4⟩

/-- T lies in the reading's range once its fields pass the checks (R33). -/
theorem timeReading_le {b : TimeBody} (hs : b.seconds < 2 ^ 40) (hf : b.fraction < 65536) :
    b.reading ≤ Config.lastReading := by
  rw [reading_eq, lastReading_eq]
  omega

theorem corrected_lawful {c : Clock} {reading : Nat} {d : Int} (h : c.lawful) (hr : reading ≤ Config.lastReading) :
    (c.corrected reading d (c.weigh d)).lawful := by
  have hclear := clearDiscipline_lawful h
  obtain ⟨_, hbudget, hcount, hday, hoffset, hdisc⟩ := hclear
  have hslew : (c.weigh d = .slewForward ∨ c.weigh d = .slewBackward) →
      -(8192 * c.budget : Int) ≤ d ∧ d < 3932160 := by
    rw [weigh_eq]
    repeat' split
    all_goals simp <;> omega
  cases hw : c.weigh d with
  | jump => exact evaluated_lawful ⟨hr, hbudget, hcount, hday, hoffset, hdisc⟩
  | slewForward => exact startSlew_lawful h (hslew (.inl hw)).1 (hslew (.inl hw)).2
  | slewBackward => exact startSlew_lawful h (hslew (.inr hw)).1 (hslew (.inr hw)).2
  | noChange => exact clearDiscipline_lawful h
  | suspect =>
    simp only [Clock.corrected]
    split
    · exact ⟨h.1, hbudget, Nat.min_le_right _ _, hday, hoffset, hdisc⟩
    · exact clearDiscipline_lawful h
  | resync => exact h

theorem resynced_lawful {c : Clock} {reading : Nat} (h : c.lawful) (hr : reading ≤ Config.lastReading) :
    (c.resynced reading).lawful := by
  obtain ⟨_, _, hcount, hday, hoffset, hdisc⟩ := clearDiscipline_lawful h
  exact ⟨hr, le_rfl, hcount, hday, hoffset, disciplined_iff.mpr (.inl ⟨rfl, rfl, rfl⟩)⟩

theorem tripCleared_lawful {c : Clock} (latch : Latch) (h : c.lawful) : (c.tripCleared latch).lawful := by
  obtain ⟨hread, hbudget, hcount, hday, hoffset, hdisc⟩ := h
  refine ⟨hread, hbudget, ?_, hday, hoffset, hdisc⟩
  simp only [Clock.tripCleared]
  split
  · exact hcount
  · exact Nat.zero_le _

theorem stepBackward_state (c : Clock) : c.stepBackward.state = c.state := by
  unfold Clock.stepBackward Clock.dropSmall
  repeat' split
  all_goals rfl

theorem stepForward_state (c : Clock) : c.stepForward.state = c.state := by
  unfold Clock.stepForward Clock.dropSmall
  split <;> rfl

theorem passes_state {c c' : Clock} (h : c.Passes c') : c'.state = c.state := by
  cases h with
  | nothing => rfl
  | second next => exact evaluated_state _
  | forward next => exact stepForward_state _
  | forwardAnnounced next => exact (evaluated_state _).trans (stepForward_state _)
  | hold next => rfl
  | backward next => exact stepBackward_state _
  | unit second slew => rfl

/-- A correction leaves an UNSET clock UNSET, and makes no other one so. -/
theorem corrected_unset {c : Clock} {reading : Nat} {d : Int} {o : TimeOutcome}
    (h : (c.corrected reading d o).state = .unset) : c.state = .unset := by
  cases o with
  | jump =>
    rw [Clock.corrected, evaluated_state] at h
    exact h
  | slewForward =>
    simp only [Clock.corrected, startSlew_eq] at h
    split at h <;> exact h
  | slewBackward =>
    simp only [Clock.corrected, startSlew_eq] at h
    split at h <;> exact h
  | noChange => exact h
  | suspect =>
    simp only [Clock.corrected] at h
    split at h
    · cases h
    · exact h
  | resync => exact h

theorem initial_lawful : Clock.initial.lawful :=
  ⟨Nat.zero_le _, le_rfl, Nat.zero_le _, Nat.zero_le _, Nat.zero_le _, disciplined_iff.mpr (.inl ⟨rfl, rfl, rfl⟩)⟩

theorem clockLaw_of_acts {s t : State} {i : Instr} (h : ClockActs s i t) (hs : ClockLaw s) : ClockLaw t := by
  obtain ⟨hlaw, hunset⟩ := clockLaw_iff.mp hs
  rw [clockLaw_iff]
  cases h with
  | leaves clock latch => exact clock ▸ ⟨hlaw, fun h => latch (hunset h)⟩
  | passes clock trip =>
    refine ⟨passes_lawful clock hlaw, fun h => ?_⟩
    rw [isTripped_eq trip]
    exact hunset ((passes_state clock).symm.trans h)
  | offset bound clock trip =>
    obtain ⟨hread, hbudget, hcount, hday, _, hdisc⟩ := hlaw
    rw [clock, isTripped_eq trip]
    refine ⟨evaluated_lawful ⟨hread, hbudget, hcount, hday, bound, hdisc⟩, fun h => hunset ?_⟩
    rw [evaluated_state] at h
    exact h
  | corrects seconds fraction offset clock latch =>
    rw [clock]
    exact ⟨corrected_lawful hlaw (timeReading_le seconds fraction), fun h => latch (hunset (corrected_unset h))⟩
  | resyncs command parcel flag seconds cleared clock =>
    rw [clock]
    refine ⟨evaluated_lawful (resynced_lawful ?_ (timeReading_le seconds (timeBody_fraction_lt _))), fun h => ?_⟩
    · rcases cleared with rfl | rfl
      · exact hlaw
      · exact tripCleared_lawful _ hlaw
    · rw [evaluated_state] at h
      cases h
  | starts command clock latch =>
    rw [clock]
    exact ⟨initial_lawful, fun _ => latch⟩

/-- Settles O59: each thing that a command, or time on an empty queue, does to the clock keeps its ranges. -/
theorem clockLawKept : Obligations.ClockLawKept := by
  intro s t hs h
  unfold step at h
  split at h
  · rw [next_inj h, State.idle, State.standbyAct]
    exact clockLaw_of_acts (i := .time) (clockActs_presentReport (.passes (tick_passes s)
      (tick_touches s .trip (by simp)))) hs
  · rename_i c rest _
    have hrest : ClockLaw (s.setPending rest) := hs
    exact clockLaw_of_acts (exec_clockActs h) hrest

end Sys2Proof.Machine
end

section
/-! Records handed over, and the single records of the key table and of the lease unit: the rules that the proofs about
announcements, RESYNC and trips use (R3, R49, R156, R181). -/

namespace Sys2Proof.Machine

/-! ## Records handed over -/

theorem stageAll_append (r : Report) (l m : List Record) : r.stageAll (l ++ m) = (r.stageAll l).stageAll m :=
  List.foldl_append

/-- Only the staging and LOST decide what staging a record makes of them. -/
theorem stage_congr {a b : Report} (hs : a.staging = b.staging) (hl : a.lost = b.lost) (q : Record) :
    (a.stage q).staging = (b.stage q).staging ∧ (a.stage q).lost = (b.stage q).lost := by
  unfold Report.stage
  rw [hs]
  split
  · exact ⟨rfl, hl⟩
  · exact ⟨rfl, rfl⟩

theorem stageAll_congr {a b : Report} (hs : a.staging = b.staging) (hl : a.lost = b.lost) (l : List Record) :
    (a.stageAll l).staging = (b.stageAll l).staging ∧ (a.stageAll l).lost = (b.stageAll l).lost := by
  induction l generalizing a b with
  | nil => exact ⟨hs, hl⟩
  | cons q rest ih =>
    obtain ⟨hs', hl'⟩ := stage_congr hs hl q
    exact ih hs' hl'

/-- Staging leaves the indices, the status beat and the identity block that are due. -/
theorem stageAll_frame (r : Report) (l : List Record) :
    (r.stageAll l).producer = r.producer ∧ (r.stageAll l).consumer = r.consumer
      ∧ (r.stageAll l).identityPending = r.identityPending ∧ (r.stageAll l).statusPending = r.statusPending := by
  induction l generalizing r with
  | nil => exact ⟨rfl, rfl, rfl, rfl⟩
  | cons q rest ih =>
    have hstage : (r.stage q).producer = r.producer ∧ (r.stage q).consumer = r.consumer
        ∧ (r.stage q).identityPending = r.identityPending ∧ (r.stage q).statusPending = r.statusPending := by
      unfold Report.stage
      split <;> exact ⟨rfl, rfl, rfl, rfl⟩
    obtain ⟨h1, h2, h3, h4⟩ := hstage
    obtain ⟨g1, g2, g3, g4⟩ := ih (r.stage q)
    exact ⟨g1.trans h1, g2.trans h2, g3.trans h3, g4.trans h4⟩

theorem handsOver_nil {a b : Report} (h : b = a) : HandsOver a b [] := h ▸ ⟨rfl, rfl⟩

theorem handsOver_trans {a b c : Report} {l m : List Record} (h : HandsOver a b l) (h' : HandsOver b c m) :
    HandsOver a c (l ++ m) := by
  obtain ⟨hs, hl⟩ := stageAll_congr h.1 h.2 m
  exact ⟨by rw [h'.1, hs, stageAll_append], by rw [h'.2, hl, stageAll_append]⟩

theorem handsOver_handOver (s : State) (q : Record) : HandsOver s.report (s.handOver q).report [q] := ⟨rfl, rfl⟩

theorem handsOver_stageAll (r : Report) (l : List Record) : HandsOver r (r.stageAll l) l := ⟨rfl, rfl⟩

/-- What leaves the report writer's block hands over no record. -/
theorem handsOver_of_touches {s t : State} {bs : List Block} (h : Touches bs s t) (hr : .report ∉ bs) :
    HandsOver s.report t.report [] := by
  have hreport : (t.report.staging, t.report.lost) = (s.report.staging, s.report.lost) := h .report hr
  exact Prod.mk.inj hreport

/-- A status event hands over no record. -/
theorem handsOver_statusEvent (s : State) : HandsOver s.report s.statusEvent.report [] := ⟨rfl, rfl⟩

theorem handsAmong_of_mem {a b : Report} {l : List Record} {q : Record} (h : HandsOver a b l) (hq : q ∈ l) :
    HandsAmong a b q := by
  obtain ⟨earlier, later, rfl⟩ := List.append_of_mem hq
  exact ⟨earlier, later, h⟩

/-- With the indices left, the records handed over and the status beat give the whole report writer. -/
theorem report_eq_of_handsOver {s t : State} {bs : List Block} {l : List Record} (ht : Touches bs s t)
    (hi : .indices ∉ bs) (h : HandsOver s.report t.report l) :
    t.report = { s.report.stageAll l with statusPending := t.report.statusPending } := by
  have hindices := ht .indices hi
  simp only [State.agree, Prod.mk.injEq] at hindices
  obtain ⟨h1, h2, h3⟩ := hindices
  obtain ⟨g1, g2, g3, _⟩ := stageAll_frame s.report l
  obtain ⟨hs, hl⟩ := h
  cases hr : t.report
  rw [hr] at h1 h2 h3 hs hl
  simp only [Report.mk.injEq]
  exact ⟨hs, h1.trans g1.symm, h2.trans g2.symm, hl, trivial, h3.trans g3.symm⟩

theorem report_eq_stageAll {s t : State} {bs : List Block} {l : List Record} (ht : Touches bs s t)
    (hi : .indices ∉ bs) (hst : .status ∉ bs) (h : HandsOver s.report t.report l) :
    t.report = s.report.stageAll l := by
  rw [report_eq_of_handsOver ht hi h, ht .status hst, ← (stageAll_frame s.report l).2.2.2]

/-! ## Single keys -/

/-- No two slots hold the same key ID (R3). -/
def State.keysUnique (s : State) : Prop :=
  ∀ i j k k', s.key i = some k → s.key j = some k' → k.keyId = k'.keyId → i = j

theorem key_lt {s : State} {i : Nat} {k : Key} (h : s.key i = some k) : i < s.keys.slots.length := by
  by_contra hn
  rw [State.key, List.getD_eq_default _ _ (not_lt.mp hn)] at h
  cases h

theorem key_eq_getElem {s : State} {i : Nat} (h : i < s.keys.slots.length) : s.key i = s.keys.slots[i] :=
  List.getD_eq_getElem _ _ h

/-- The slots one by one. -/
theorem slots_eq_map (s : State) : s.keys.slots = (List.range s.keys.slots.length).map s.key := by
  refine List.ext_getElem (by simp) (fun i h1 h2 => ?_)
  simp [key_eq_getElem h1]

theorem heldKeys_eq (s : State) : s.heldKeys = (List.range s.keys.slots.length).filterMap s.key := by
  rw [State.heldKeys]
  conv_lhs => rw [slots_eq_map s]
  rw [List.filterMap_map]
  rfl

theorem mem_heldKeys {s : State} {k : Key} : k ∈ s.heldKeys ↔ ∃ i, s.key i = some k := by
  rw [heldKeys_eq, List.mem_filterMap]
  exact ⟨fun ⟨i, _, h⟩ => ⟨i, h⟩, fun ⟨i, h⟩ => ⟨i, List.mem_range.mpr (key_lt h), h⟩⟩

theorem keyTableLaw_inRange {s : State} (h : KeyTableLaw s) {i : Nat} {k : Key} (hk : s.key i = some k) : k.inRange :=
  h.2.2 k (mem_heldKeys.mpr ⟨i, hk⟩)

theorem keyTableLaw_unique {s : State} (h : KeyTableLaw s) : s.keysUnique := by
  have hpair := h.2.1
  rw [heldKeys_eq, List.nodup_iff_pairwise_ne, List.pairwise_map, List.pairwise_filterMap,
    List.pairwise_iff_getElem] at hpair
  have hlt : ∀ i j k k', s.key i = some k → s.key j = some k' → k.keyId = k'.keyId → ¬ i < j := by
    intro i j k k' hi hj hid hij
    exact hpair i j (by simpa using key_lt hi) (by simpa using key_lt hj) hij k (by simpa using hi) k'
      (by simpa using hj) hid
  intro i j k k' hi hj hid
  have h1 := hlt i j k k' hi hj hid
  have h2 := hlt j i k' k hj hi hid.symm
  omega

theorem key_setKey_same {s : State} {i : Nat} {k : Key} (h : s.key i = some k) (o : Option Key) :
    (s.setKey i o).key i = o := by
  have := key_lt h
  simp [State.key, State.setKey, List.getD, this]

theorem key_setKey_ne {s : State} {i j : Nat} (h : j ≠ i) (o : Option Key) : (s.setKey i o).key j = s.key j := by
  simp [State.key, State.setKey, List.getD, Ne.symm h]

theorem key_setKey {s : State} {i : Nat} {k : Key} (h : s.key i = some k) (o : Option Key) (j : Nat) :
    (s.setKey i o).key j = if j = i then o else s.key j := by
  by_cases hj : j = i
  · rw [if_pos hj, hj, key_setKey_same h]
  · rw [if_neg hj, key_setKey_ne hj]

theorem setKey_length (s : State) (i : Nat) (o : Option Key) :
    (s.setKey i o).keys.slots.length = s.keys.slots.length := List.length_set

theorem key_congr {s t : State} (h : t.keys = s.keys) (i : Nat) : t.key i = s.key i := by simp [State.key, h]

theorem findKey_eq_none {s : State} {id : KeyId} :
    s.findKey id = none ↔ ∀ i k, s.key i = some k → k.keyId ≠ id := by
  constructor
  · intro h i k hk
    exact findKeyFrom_none h k (by
      rw [← hk, key_eq_getElem (key_lt hk)]
      exact List.getElem_mem _)
  · intro h
    cases hf : s.findKey id with
    | none => rfl
    | some p =>
      obtain ⟨hk, hid, _⟩ := findKey_some (slot := p.1) (k := p.2) hf
      exact absurd hid (h _ _ hk)

theorem findKey_eq_some {s : State} (hu : s.keysUnique) {id : KeyId} {i : Nat} {k : Key} :
    s.findKey id = some (i, k) ↔ s.key i = some k ∧ k.keyId = id := by
  constructor
  · intro h
    exact ⟨(findKey_some h).1, (findKey_some h).2.1⟩
  · rintro ⟨hk, hid⟩
    cases hf : s.findKey id with
    | none => exact absurd hid (findKey_eq_none.mp hf i k hk)
    | some p =>
      obtain ⟨hk', hid', _⟩ := findKey_some (slot := p.1) (k := p.2) hf
      obtain rfl := hu i p.1 k p.2 hk hk' (hid.trans hid'.symm)
      rw [hk] at hk'
      cases hk'
      rfl

/-! ## Single leases -/

theorem lease_lt {s : State} {i : Nat} (h : s.lease i ≠ .idle) : i < s.leases.length := by
  by_contra hn
  exact h (List.getD_eq_default _ _ (not_lt.mp hn))

theorem lease_congr {s t : State} (h : t.leases = s.leases) (i : Nat) : t.lease i = s.lease i := by
  simp [State.lease, h]

theorem lease_setLease {s : State} {i : Nat} (h : s.lease i ≠ .idle) (l : Lease) (j : Nat) :
    (s.setLease i l).lease j = if j = i then l else s.lease j := by
  have := lease_lt h
  by_cases hj : j = i
  · subst hj
    simp [State.lease, State.setLease, List.getD, this]
  · simp [State.lease, State.setLease, List.getD, hj, Ne.symm hj]

theorem mem_leases {s : State} {l : Lease} (h : l ∈ s.leases) : ∃ i < s.leases.length, s.lease i = l := by
  obtain ⟨i, hi, rfl⟩ := List.getElem_of_mem h
  exact ⟨i, hi, List.getD_eq_getElem _ _ hi⟩

theorem lease_mem {s : State} {i : Nat} (h : i < s.leases.length) : s.lease i ∈ s.leases := by
  rw [State.lease, List.getD_eq_getElem _ _ h]
  exact List.getElem_mem h

theorem anyLists_iff {s : State} {id : KeyId} : s.anyLists id = true ↔ ∃ i, (s.lease i).lists id = true := by
  rw [State.anyLists, List.any_eq_true]
  constructor
  · rintro ⟨l, hl, hid⟩
    obtain ⟨i, _, rfl⟩ := mem_leases hl
    exact ⟨i, hid⟩
  · rintro ⟨i, hid⟩
    have hne : s.lease i ≠ .idle := fun h => by rw [h] at hid; cases hid
    exact ⟨s.lease i, lease_mem (lease_lt hne), hid⟩

theorem anyLists_false {s : State} {id : KeyId} : s.anyLists id = false ↔ ∀ i, (s.lease i).lists id = false := by
  rw [← Bool.not_eq_true, anyLists_iff]
  simp

/-- Which keys are listed depends on the leases' lists alone. -/
theorem anyLists_congr {s t : State} {id : KeyId} (h : ∀ i, (t.lease i).lists id = (s.lease i).lists id) :
    t.anyLists id = s.anyLists id := by
  rw [Bool.eq_iff_iff, anyLists_iff, anyLists_iff]
  simp [h]

/-! ## All the streams -/

/-- An act done for every stream in ascending order. -/
theorem forStreams_rec {P : Nat → State → Prop} {f : Nat → State → State} {s : State} (start : P 0 s)
    (step : ∀ i < 16, ∀ u, P i u → P (i + 1) (f i u)) : P 16 (s.forStreams f) := by
  have h : ∀ n ≤ 16, P n ((List.range n).foldl (fun s i => f i s) s) := by
    intro n
    induction n with
    | zero => exact fun _ => start
    | succ n ih =>
      intro hn
      rw [List.range_succ, List.foldl_append]
      exact step n (by omega) _ (ih (by omega))
  exact h 16 le_rfl

end Sys2Proof.Machine
end

section
/-! The boundaries of the key table's slots: what taking one makes of a key, the order in which an announcement takes
them, and an induction over the boundaries taken (R20 to R24). -/

namespace Sys2Proof.Machine

/-! ## One key and its boundaries -/

/-- The boundaries that lie before a slot. -/
def boundariesOf (slot : Nat) : Option Key → List Boundary
  | none => []
  | some k => k.boundaries slot

/-- What the slot of a key holds once a boundary of a kind is taken (R21 to R23). -/
def Key.take (k : Key) : BoundaryKind → Option Key
  | .notBefore => some { k with state := .opened }
  | .notAfter =>
    if k.state = .withdrawn then some { k with noticeGiven := true }
    else some { k with state := .closed, noticeGiven := true }
  | .freeing => none

/-- What the slot of a key holds once some of its boundaries are taken. -/
def Key.after (k : Key) (taken : List Boundary) : Option Key :=
  taken.foldl (fun o b => o.bind (fun k => k.take b.kind)) (some k)

theorem after_append (k : Key) (taken : List Boundary) (b : Boundary) :
    k.after (taken ++ [b]) = (k.after taken).bind (fun k' => k'.take b.kind) := by
  simp [Key.after, List.foldl_append]

/-- A key that only its state and its notice distinguish from another, neither more nor less WITHDRAWN. -/
def KeyMoved (k k' : Key) : Prop :=
  k' = { k with state := k'.state, noticeGiven := k'.noticeGiven } ∧ (k'.state = .withdrawn ↔ k.state = .withdrawn)

theorem keyMoved_refl (k : Key) : KeyMoved k k := ⟨rfl, Iff.rfl⟩

theorem keyMoved_trans {k k' k'' : Key} (h : KeyMoved k k') (h' : KeyMoved k' k'') : KeyMoved k k'' := by
  obtain ⟨e, w⟩ := h
  obtain ⟨e', w'⟩ := h'
  refine ⟨?_, w'.trans w⟩
  rw [e'.trans (by rw [e])]

theorem keyMoved_keyId {k k' : Key} (h : KeyMoved k k') : k'.keyId = k.keyId := by rw [h.1]

theorem keyMoved_inRange {k k' : Key} (h : KeyMoved k k') (hk : k.inRange) : k'.inRange := by
  rw [h.1]
  exact hk

/-- The boundary that comes first for a slot, by its kind: the state that awaits it. -/
theorem boundaries_head {k : Key} {slot : Nat} {b : Boundary} {rest : List Boundary}
    (h : k.boundaries slot = b :: rest) :
    b.slot = slot ∧ match b.kind with
      | .notBefore => k.state = .waiting ∧ b.time = k.notBefore
      | .notAfter => (k.state = .opened ∨ (k.state = .withdrawn ∧ k.noticeGiven = false)) ∧ b.time = k.notAfter
      | .freeing => (k.state = .closed ∨ k.state = .withdrawn) ∧ b.time = k.freeingTime := by
  unfold Key.boundaries at h
  cases hs : k.state <;> rw [hs] at h
  case withdrawn =>
    cases hn : k.noticeGiven <;> rw [hn] at h <;> cases h <;> simp
  all_goals
    cases h
    simp

/-- Once its first boundary is taken, a slot's others remain. -/
theorem boundariesOf_take {k : Key} {slot : Nat} {b : Boundary} {rest : List Boundary}
    (h : k.boundaries slot = b :: rest) : boundariesOf slot (k.take b.kind) = rest := by
  unfold Key.boundaries at h
  cases hs : k.state <;> rw [hs] at h
  case withdrawn =>
    cases hn : k.noticeGiven <;> rw [hn] at h <;> cases h
    · simp [Key.take, hs, boundariesOf, Key.boundaries, Key.freeingTime]
    · rfl
  all_goals
    cases h
    simp [Key.take, hs, boundariesOf, Key.boundaries, Key.freeingTime]

theorem take_moved {k k' : Key} {slot : Nat} {b : Boundary} {rest : List Boundary}
    (h : k.boundaries slot = b :: rest) (ht : k.take b.kind = some k') : KeyMoved k k' := by
  obtain ⟨_, hkind⟩ := boundaries_head h
  cases hb : b.kind <;> simp only [hb, Key.take] at hkind ht
  · cases ht
    simp [KeyMoved, hkind.1]
  · split at ht <;> cases ht
    · simp [KeyMoved]
    · rename_i hw
      simp [KeyMoved, hw]
  · cases ht

/-- A key's boundaries are its own, in ascending order. -/
theorem boundaries_sorted {k : Key} (hk : k.inRange) (slot : Nat) :
    (k.boundaries slot).Pairwise (fun a b => a.before b = true ∧ a.time ≤ b.time ∧ a ≠ b) := by
  obtain ⟨_, _, hwindow, _⟩ := hk
  have hgrace : k.notAfter ≤ k.freeingTime := Nat.le_add_right _ _
  have hfree : k.notBefore < k.freeingTime := lt_of_lt_of_le hwindow hgrace
  unfold Key.boundaries
  split
  · simp [Boundary.before, BoundaryKind.rank, hwindow, hwindow.le, hfree, hfree.le, hgrace, lt_or_eq_of_le hgrace]
  · simp [Boundary.before, BoundaryKind.rank, hgrace, lt_or_eq_of_le hgrace]
  · simp
  · split
    · simp
    · simp [Boundary.before, BoundaryKind.rank, hgrace, lt_or_eq_of_le hgrace]

theorem boundaries_slot {k : Key} {slot : Nat} {b : Boundary} (h : b ∈ k.boundaries slot) : b.slot = slot := by
  unfold Key.boundaries at h
  split at h
  case h_4 => split at h <;> simp at h <;> rcases h with rfl | rfl <;> rfl
  all_goals
    simp at h
  · rcases h with rfl | rfl | rfl <;> rfl
  · rcases h with rfl | rfl <;> rfl
  · rw [h]

/-- A key gives its closing notice by a time when its not-after lies before it and by that time (R22). -/
theorem closesBy_iff {k : Key} {now : Nat} (slot : Nat) :
    k.closesBy now = true ↔ ∃ b ∈ k.boundaries slot, b.kind = .notAfter ∧ b.time ≤ now := by
  unfold Key.closesBy Key.boundaries
  cases hs : k.state <;> cases hn : k.noticeGiven <;> simp

/-- The boundaries that a reading reaches are those of the slot's key that lie by it (R20). -/
theorem reaches_iff {s : State} {now : Nat} {b : Boundary} :
    s.reaches now b ↔ ∃ k, s.key b.slot = some k ∧ b ∈ k.boundaries b.slot ∧ b.time ≤ now := by
  have hmem : ∀ k : Key, b ∈ k.boundaries b.slot ↔
      (match b.kind with
        | .notBefore => b.time = k.notBefore ∧ k.state = .waiting
        | .notAfter => b.time = k.notAfter ∧ (k.state = .waiting ∨ k.state = .opened
            ∨ (k.state = .withdrawn ∧ k.noticeGiven = false))
        | .freeing => b.time = k.notAfter + 60 * k.grace) := by
    intro k
    obtain ⟨time, slot, kind⟩ := b
    unfold Key.boundaries Key.freeingTime
    cases kind <;> cases hs : k.state <;> cases hn : k.noticeGiven <;> simp
  unfold State.reaches
  exact exists_congr (fun k => and_congr_right (fun _ => by rw [hmem k]; exact and_comm))

/-- A key whose boundaries by a time are taken, and no other, is the key that the statements reach (R20 to R24). -/
theorem reached_of_after {k : Key} {now slot : Nat} {taken rest : List Boundary} (hk : k.inRange)
    (h : k.boundaries slot = taken ++ rest) (htaken : ∀ b ∈ taken, b.time ≤ now) (hrest : ∀ b ∈ rest, now < b.time) :
    k.after taken = k.reached now := by
  have hdue : taken = (k.boundaries slot).filter (fun b => decide (b.time ≤ now)) := by
    rw [h, List.filter_append, List.filter_eq_self.mpr (by simpa using htaken),
      List.filter_eq_nil_iff.mpr (by simpa using hrest), List.append_nil]
  obtain ⟨_, _, hwindow, _⟩ := hk
  rw [hdue]
  unfold Key.reached
  obtain ⟨state, _, _, _, _, notBefore, notAfter, grace, _, _, _, _, notice⟩ := k
  dsimp only at hwindow
  by_cases hfree : notAfter + 60 * grace ≤ now
  · have hafter : notAfter ≤ now := by omega
    have hbefore : notBefore ≤ now := by omega
    cases state <;> cases notice <;>
      simp [Key.boundaries, Key.freeingTime, Key.after, Key.take, hfree, hafter, hbefore]
  · by_cases hafter : notAfter ≤ now
    · have hbefore : notBefore ≤ now := by omega
      cases state <;> cases notice <;>
        simp [Key.boundaries, Key.freeingTime, Key.after, Key.take, hfree, hafter, hbefore]
    · by_cases hbefore : notBefore ≤ now <;> cases state <;> cases notice <;>
        simp [Key.boundaries, Key.freeingTime, Key.after, Key.take, hfree, hafter, hbefore]

/-! ## The order of R24 -/

theorem before_iff {a b : Boundary} :
    a.before b = true ↔ a.time < b.time ∨ (a.time = b.time
      ∧ (a.slot < b.slot ∨ (a.slot = b.slot ∧ a.kind.rank ≤ b.kind.rank))) := decide_eq_true_iff

theorem rank_injective {a b : BoundaryKind} (h : a.rank = b.rank) : a = b := by
  cases a <;> cases b <;> simp [BoundaryKind.rank] at h <;> rfl

theorem before_total (a b : Boundary) : a.before b = true ∨ b.before a = true := by
  simp only [before_iff]
  omega

theorem before_trans {a b c : Boundary} (h : a.before b = true) (h' : b.before c = true) : a.before c = true := by
  simp only [before_iff] at *
  omega

theorem before_antisymm {a b : Boundary} (h : a.before b = true) (h' : b.before a = true) : a = b := by
  simp only [before_iff] at h h'
  obtain ⟨time, slot, kind⟩ := a
  obtain ⟨time', slot', kind'⟩ := b
  dsimp only at h h'
  have hkind : kind = kind' := rank_injective (by omega)
  rw [hkind, Boundary.mk.injEq]
  exact ⟨by omega, by omega, rfl⟩

theorem insertBoundary_perm (b : Boundary) (l : List Boundary) : (insertBoundary b l).Perm (b :: l) := by
  induction l with
  | nil => exact List.Perm.refl _
  | cons c rest ih =>
    unfold insertBoundary
    split
    · exact List.Perm.refl _
    · exact (List.Perm.cons c ih).trans (List.Perm.swap b c rest)

theorem insertBoundary_sorted {b : Boundary} {l : List Boundary}
    (h : l.Pairwise (fun a c => a.before c = true)) :
    (insertBoundary b l).Pairwise (fun a c => a.before c = true) := by
  induction l with
  | nil => simp [insertBoundary]
  | cons c rest ih =>
    obtain ⟨hc, hrest⟩ := List.pairwise_cons.mp h
    unfold insertBoundary
    split
    · rename_i hbc
      refine List.pairwise_cons.mpr ⟨fun d hd => ?_, h⟩
      rcases List.mem_cons.mp hd with rfl | hd
      · exact hbc
      · exact before_trans hbc (hc d hd)
    · rename_i hbc
      refine List.pairwise_cons.mpr ⟨fun d hd => ?_, ih hrest⟩
      rcases List.mem_cons.mp ((insertBoundary_perm b rest).mem_iff.mp hd) with rfl | hd
      · exact (before_total c d).resolve_right hbc
      · exact hc d hd

theorem dueBoundaries_perm (s : State) :
    s.dueBoundaries.Perm (dueBoundariesFrom s.nowSeconds s.keys.slots 0) := by
  unfold State.dueBoundaries
  generalize dueBoundariesFrom s.nowSeconds s.keys.slots 0 = l
  induction l with
  | nil => exact List.Perm.refl _
  | cons b rest ih => exact (insertBoundary_perm b _).trans (List.Perm.cons b ih)

theorem dueBoundaries_sorted (s : State) : s.dueBoundaries.Pairwise (fun a b => a.before b = true) := by
  unfold State.dueBoundaries
  generalize dueBoundariesFrom s.nowSeconds s.keys.slots 0 = l
  induction l with
  | nil => exact List.Pairwise.nil
  | cons b rest ih => exact insertBoundary_sorted ih

/-! ## The boundaries due -/

/-- The boundaries of a slot that a reading has reached, in their order. -/
def dueOf (now slot : Nat) (o : Option Key) : List Boundary :=
  (boundariesOf slot o).filter (fun b => decide (b.time ≤ now))

theorem boundariesOf_slot {slot : Nat} {o : Option Key} {b : Boundary} (h : b ∈ boundariesOf slot o) :
    b.slot = slot := by
  cases o with
  | none => cases h
  | some k => exact boundaries_slot h

/-- The boundaries due over a list of slots are, slot by slot, those of the slot. -/
theorem dueBoundariesFrom_cons (now : Nat) (o : Option Key) (rest : List (Option Key)) (n : Nat) :
    dueBoundariesFrom now (o :: rest) n = dueOf now n o ++ dueBoundariesFrom now rest (n + 1) := by
  cases o <;> rfl

theorem dueBoundariesFrom_filter (now slot : Nat) (list : List (Option Key)) (n : Nat) :
    (dueBoundariesFrom now list n).filter (fun b => decide (b.slot = slot)) =
      if n ≤ slot then dueOf now slot (list.getD (slot - n) none) else [] := by
  induction list generalizing n with
  | nil => simp [dueBoundariesFrom, dueOf, boundariesOf]
  | cons o rest ih =>
    have hslot : ∀ b ∈ dueOf now n o, b.slot = n := fun b hb => boundariesOf_slot (List.mem_filter.mp hb).1
    rw [dueBoundariesFrom_cons, List.filter_append, ih (n + 1)]
    rcases lt_trichotomy n slot with h | h | h
    · rw [List.filter_eq_nil_iff.mpr (fun b hb => by simp [hslot b hb, h.ne]),
        if_pos (Nat.succ_le_of_lt h), if_pos h.le,
        List.nil_append,
        show slot - n = (slot - (n + 1)) + 1 by omega, List.getD_cons_succ]
    · subst h
      rw [List.filter_eq_self.mpr (fun b hb => by simp [hslot b hb])]
      simp
    · rw [List.filter_eq_nil_iff.mpr (fun b hb => by simp [hslot b hb, h.ne']), if_neg (by omega), if_neg (by omega),
        List.append_nil]

/-- A list of boundaries holds, for every slot, those that are due for its key, in their order. -/
def State.fits (s : State) (now : Nat) (l : List Boundary) : Prop :=
  ∀ slot, l.filter (fun b => decide (b.slot = slot)) = dueOf now slot (s.key slot)

/-- Every key held is in its ranges. -/
def State.keysInRange (s : State) : Prop := ∀ i k, s.key i = some k → k.inRange

theorem dueBoundaries_fits {s : State} (hr : s.keysInRange) : s.fits s.nowSeconds s.dueBoundaries := by
  intro slot
  refine List.Perm.eq_of_pairwise (le := fun a b => a.before b = true) (fun _ _ _ _ => before_antisymm)
    ((dueBoundaries_sorted s).filter _) ?_ ?_
  · cases hk : s.key slot with
    | none => exact List.Pairwise.nil
    | some k => exact ((boundaries_sorted (hr slot k hk) slot).imp (fun h => h.1)).filter _
  · refine ((dueBoundaries_perm s).filter _).trans (List.Perm.of_eq ?_)
    rw [dueBoundariesFrom_filter, if_pos (Nat.zero_le _)]
    rfl

/-- Of a fitting list the front boundary is the first of its slot's key. -/
theorem fits_head {s : State} {now : Nat} {b : Boundary} {l : List Boundary} (hr : s.keysInRange)
    (h : s.fits now (b :: l)) :
    ∃ k rest, s.key b.slot = some k ∧ k.boundaries b.slot = b :: rest ∧ b.time ≤ now := by
  have hb := h b.slot
  rw [List.filter_cons_of_pos (by simp)] at hb
  cases hk : s.key b.slot with
  | none =>
    rw [hk] at hb
    cases hb
  | some k =>
    rw [hk, dueOf, boundariesOf] at hb
    cases hbs : k.boundaries b.slot with
    | nil =>
      rw [hbs] at hb
      cases hb
    | cons c rest =>
      have hsorted := List.pairwise_cons.mp (hbs ▸ boundaries_sorted (hr _ k hk) b.slot)
      rw [hbs, List.filter_cons] at hb
      split at hb
      · rename_i hc
        obtain ⟨rfl, _⟩ := List.cons.inj hb
        exact ⟨k, rest, rfl, hbs, by simpa using hc⟩
      · rename_i hc
        have hnone : rest.filter (fun b => decide (b.time ≤ now)) = [] := by
          refine List.filter_eq_nil_iff.mpr (fun d hd => ?_)
          have := (hsorted.1 d hd).2.1
          simp only [decide_eq_true_eq] at hc ⊢
          omega
        rw [hnone] at hb
        cases hb

/-- Once the front boundary of a fitting list is taken, the rest fits. -/
theorem fits_tail {s t : State} {now : Nat} {b : Boundary} {l rest : List Boundary} {k : Key}
    (h : s.fits now (b :: l)) (hk : s.key b.slot = some k) (hb : k.boundaries b.slot = b :: rest)
    (hnow : b.time ≤ now) (ht : ∀ j, t.key j = if j = b.slot then k.take b.kind else s.key j) : t.fits now l := by
  intro slot
  have hslot := h slot
  rw [ht slot]
  by_cases hs : slot = b.slot
  · subst hs
    rw [hk, dueOf, boundariesOf, hb, List.filter_cons_of_pos (by simp), List.filter_cons_of_pos (by simpa using hnow),
      List.cons.injEq] at hslot
    rw [if_pos rfl, dueOf, boundariesOf_take hb, hslot.2]
  · rw [List.filter_cons_of_neg (by simpa using Ne.symm hs)] at hslot
    rw [if_neg hs, hslot]

/-! ## One boundary taken -/

theorem handOver_lease (s : State) (q : Record) (j : Nat) : (s.handOver q).lease j = s.lease j := rfl

/-- A lease at the closing notice for a key ID (R67). -/
def Lease.noticed (id : KeyId) : Lease → Lease
  | .serving .running sh => if sh.keys.contains id then .serving .overrun sh else .serving .running sh
  | .serving .overrun sh => .serving .overrun sh
  | .serving (.held saved since) sh => .serving (.held saved since) sh
  | .idle => .idle
  | .refused tag refusal => .refused tag refusal

theorem noticed_lists (id id' : KeyId) (l : Lease) : (l.noticed id).lists id' = l.lists id' := by
  unfold Lease.noticed
  split
  · split <;> rfl
  all_goals rfl

theorem recordSeconds_congr {s t : State} (h : t.clock = s.clock) : t.recordSeconds = s.recordSeconds := by
  simp [State.recordSeconds, State.nowSeconds, h]

theorem nowSeconds_congr {s t : State} (h : t.clock = s.clock) : t.nowSeconds = s.nowSeconds := by
  simp [State.nowSeconds, h]

/-- The LEASE_OVERRUN record of a stream and a key (R63, R67). -/
def overrunRecord (seconds : BitVec 40) (stream : Nat) (sh : Show) (id : KeyId) : Record :=
  recordOfShow seconds .leaseOverrun 0 stream sh.tag id 0 0

/-- What one stream's lease does at a closing notice: its lease, and the record it hands over. -/
theorem closeOne_spec (id : KeyId) (i : Nat) (s : State) :
    (∀ j, (State.closeOne id i s).lease j = if j = i then (s.lease j).noticed id else s.lease j)
      ∧ ((∃ sh, s.lease i = .serving .running sh ∧ id ∈ sh.keys
            ∧ HandsOver s.report (State.closeOne id i s).report [overrunRecord s.recordSeconds i sh id])
          ∨ ((∀ sh, s.lease i = .serving .running sh → id ∉ sh.keys)
            ∧ HandsOver s.report (State.closeOne id i s).report [])) := by
  have hstill : (s.lease i).noticed id = s.lease i →
      ∀ j, s.lease j = if j = i then (s.lease j).noticed id else s.lease j := by
    intro h j
    split
    · rename_i hj
      rw [hj, h]
    · rfl
  unfold State.closeOne
  cases hl : s.lease i with
  | idle => exact ⟨hstill (by rw [hl]; rfl), .inr ⟨by simp, handsOver_nil rfl⟩⟩
  | refused tag refusal => exact ⟨hstill (by rw [hl]; rfl), .inr ⟨by simp, handsOver_nil rfl⟩⟩
  | serving st sh =>
    cases st with
    | overrun => exact ⟨hstill (by rw [hl]; rfl), .inr ⟨by simp, handsOver_nil rfl⟩⟩
    | held saved since => exact ⟨hstill (by rw [hl]; rfl), .inr ⟨by simp, handsOver_nil rfl⟩⟩
    | running =>
      dsimp only
      split
      · rename_i hmem
        refine ⟨fun j => ?_, .inl ⟨sh, rfl, by simpa using hmem, ?_⟩⟩
        · rw [handOver_lease, lease_setLease (by simp [hl])]
          split
          · rename_i hj
            rw [hj, hl, Lease.noticed, if_pos hmem]
          · rfl
        · exact handsOver_handOver (s.setLease i _) _
      · rename_i hmem
        refine ⟨hstill (by rw [hl, Lease.noticed, if_neg hmem]), .inr ⟨?_, handsOver_nil rfl⟩⟩
        rintro sh' h
        cases h
        simpa using hmem

/-- The closing notice: every RUNNING lease that lists the key is OVERRUN, with its record, and nothing else happens to
the leases (R67). -/
theorem closingNotice_spec (s : State) (id : KeyId) :
    (∀ j, (s.closingNotice id).lease j = if j < 16 then (s.lease j).noticed id else s.lease j)
      ∧ ∃ overruns, HandsOver s.report (s.closingNotice id).report overruns
        ∧ (∀ j < 16, ∀ sh, s.lease j = .serving .running sh → id ∈ sh.keys →
            overrunRecord s.recordSeconds j sh id ∈ overruns)
        ∧ ((∀ j < 16, ∀ sh, s.lease j = .serving .running sh → id ∉ sh.keys) → overruns = []) := by
  refine (forStreams_rec (s := s)
    (P := fun n v => v.clock = s.clock ∧ (∀ j, v.lease j = if j < n then (s.lease j).noticed id else s.lease j)
      ∧ ∃ overruns, HandsOver s.report v.report overruns
        ∧ (∀ j < n, ∀ sh, s.lease j = .serving .running sh → id ∈ sh.keys →
            overrunRecord s.recordSeconds j sh id ∈ overruns)
        ∧ ((∀ j < n, ∀ sh, s.lease j = .serving .running sh → id ∉ sh.keys) → overruns = []))
    ?_ ?_).2
  · exact ⟨rfl, fun j => by simp, [], handsOver_nil rfl, fun j hj => absurd hj (Nat.not_lt_zero j), fun _ => rfl⟩
  · rintro i - v ⟨hclock, hleases, overruns, hrep, hmem, hnone⟩
    obtain ⟨hlease, hone⟩ := closeOne_spec id i v
    have hi : v.lease i = s.lease i := by rw [hleases, if_neg (lt_irrefl i)]
    refine ⟨(closeOne_touches id i v .clock (by simp)).trans hclock, fun j => ?_, ?_⟩
    · rw [hlease j, hleases j]
      rcases lt_trichotomy j i with h | h | h
      · rw [if_neg h.ne, if_pos h, if_pos (by omega)]
      · rw [if_pos h, if_neg (by omega), if_pos (by omega)]
      · rw [if_neg h.ne', if_neg (by omega), if_neg (by omega)]
    · rw [hi, recordSeconds_congr hclock] at hone
      rcases hone with ⟨sh, hsh, hid, hover⟩ | ⟨hnot, hover⟩
      · refine ⟨overruns ++ _, handsOver_trans hrep hover, fun j hj sh' hsh' hid' => ?_, fun hall => ?_⟩
        · rcases Nat.lt_succ_iff_lt_or_eq.mp hj with h | rfl
          · exact List.mem_append_left _ (hmem j h sh' hsh' hid')
          · rw [hsh] at hsh'
            cases hsh'
            exact List.mem_append_right _ (List.mem_singleton_self _)
        · exact absurd hid (hall i (Nat.lt_succ_self i) sh hsh)
      · refine ⟨overruns, by simpa using handsOver_trans hrep hover, fun j hj sh' hsh' hid' => ?_,
          fun hall => hnone (fun j hj => hall j (Nat.lt_succ_of_lt hj))⟩
        rcases Nat.lt_succ_iff_lt_or_eq.mp hj with h | rfl
        · exact hmem j h sh' hsh' hid'
        · exact absurd hid' (hnot sh' hsh')

/-- What taking a slot's first boundary does to the state (R21 to R23). -/
structure BoundaryTaken (s : State) (b : Boundary) (k : Key) (t : State) : Prop where
  keys : ∀ j, t.key j = if j = b.slot then k.take b.kind else s.key j
  slots : t.keys.slots.length = s.keys.slots.length
  generation : t.keys.generation = s.keys.generation + if b.kind = .notBefore then 1 else 0
  revocations : t.revocations =
    if b.kind = .freeing ∧ k.state = .withdrawn then settleRevocation s.nowSeconds k.keyId s.revocations
    else s.revocations
  leases : ∀ j, t.lease j = if b.kind = .notAfter ∧ j < 16 then (s.lease j).noticed k.keyId else s.lease j
  report : ∃ overruns, HandsOver s.report t.report ((s.boundaryRecord s.nowSeconds b).toList ++ overruns)
    ∧ (b.kind = .notAfter → ∀ j < 16, ∀ sh, s.lease j = .serving .running sh → k.keyId ∈ sh.keys →
        overrunRecord s.recordSeconds j sh k.keyId ∈ overruns)
    ∧ ((b.kind = .notAfter → ∀ j < 16, ∀ sh, s.lease j = .serving .running sh → k.keyId ∉ sh.keys) →
        overruns = [])

/-- The records of a clock that runs carry the reading. -/
theorem recordSeconds_eq {s : State} (h : s.clock.state ≠ .unset) : s.recordSeconds = BitVec.ofNat 40 s.nowSeconds := by
  simp [State.recordSeconds, h]

theorem reachNotBefore_taken {s : State} {b : Boundary} {k : Key} (hstate : s.clock.state ≠ .unset)
    (hk : s.key b.slot = some k) (hb : b.kind = .notBefore) (hw : k.state = .waiting) :
    BoundaryTaken s b k (s.takeBoundary b) := by
  have ht : s.takeBoundary b =
      ((s.setKey b.slot (some { k with state := .opened })).bumpGeneration).handOver
        (s.keyOpenedRecord .onTime b.slot k) := by
    simp [State.takeBoundary, hk, hb, State.reachNotBefore, hw]
  have hrecord : s.boundaryRecord s.nowSeconds b = some (s.keyOpenedRecord .onTime b.slot k) := by
    simp only [State.boundaryRecord, hk, hb, State.keyOpenedRecord, State.keyTimeRecord, recordSeconds_eq hstate]
    rfl
  rw [ht]
  refine ⟨fun j => ?_, setKey_length s _ _, by simp [hb, State.bumpGeneration]; rfl, by simp [hb],
    fun j => by simp [hb]; rfl, [], ?_, by simp [hb], fun _ => rfl⟩
  · rw [hb]
    exact key_setKey hk _ j
  · rw [hrecord]
    exact handsOver_handOver (s.setKey b.slot _).bumpGeneration _

theorem reachNotAfter_taken {s : State} {b : Boundary} {k : Key} (hstate : s.clock.state ≠ .unset)
    (hk : s.key b.slot = some k) (hb : b.kind = .notAfter)
    (hw : k.state = .opened ∨ (k.state = .withdrawn ∧ k.noticeGiven = false)) :
    BoundaryTaken s b k (s.takeBoundary b) := by
  obtain ⟨v, ht, hkeys, hclock, hleases, hrevocations, hreport⟩ : ∃ v : State,
      s.takeBoundary b = v.closingNotice k.keyId
        ∧ v.keys = (s.setKey b.slot (k.take .notAfter)).keys ∧ v.clock = s.clock ∧ v.leases = s.leases
        ∧ v.revocations = s.revocations
        ∧ HandsOver s.report v.report (s.boundaryRecord s.nowSeconds b).toList := by
    rcases hw with hw | ⟨hw, hn⟩
    · have hrecord : s.boundaryRecord s.nowSeconds b = some (s.keyClosedRecord b.slot k) := by
        simp only [State.boundaryRecord, hk, hb, hw, State.keyClosedRecord, State.keyTimeRecord,
          recordSeconds_eq hstate]
        rfl
      refine ⟨(s.setKey b.slot (some { k with state := .closed, noticeGiven := true })).handOver
        (s.keyClosedRecord b.slot k), ?_, ?_, rfl, rfl, rfl, ?_⟩
      · simp [State.takeBoundary, hk, hb, State.reachNotAfter, hw]
      · simp [Key.take, hw]
      · rw [hrecord]
        exact handsOver_handOver (s.setKey b.slot _) _
    · refine ⟨s.setKey b.slot (some { k with noticeGiven := true }), ?_, ?_, rfl, rfl, rfl, ?_⟩
      · simp [State.takeBoundary, hk, hb, State.reachNotAfter, hw, hn]
      · simp [Key.take, hw]
      · rw [show s.boundaryRecord s.nowSeconds b = none by simp [State.boundaryRecord, hk, hb, hw]]
        exact handsOver_nil rfl
  obtain ⟨hnotice, overruns, hover, hmem, hnone⟩ := closingNotice_spec v k.keyId
  have hlease : ∀ j, v.lease j = s.lease j := lease_congr hleases
  have hkeys' : (v.closingNotice k.keyId).keys = (s.setKey b.slot (k.take .notAfter)).keys :=
    (closingNotice_touches v _ .keys (by simp)).trans hkeys
  simp only [hlease, recordSeconds_congr hclock] at hnotice hmem hnone
  rw [ht]
  refine ⟨fun j => ?_, ?_, ?_, ?_, fun j => ?_, overruns, handsOver_trans hreport hover, fun _ => hmem,
    fun h => hnone (h hb)⟩
  · rw [key_congr hkeys', hb]
    exact key_setKey hk _ j
  · rw [hkeys']
    exact setKey_length s _ _
  · rw [hkeys', hb]
    exact (BitVec.add_zero _).symm
  · rw [closingNotice_touches v _ .revocations (by simp), hrevocations]
    simp [hb]
  · rw [hnotice j]
    simp [hb]

/-- A slot that is not EMPTY becomes EMPTY, and the entry of a WITHDRAWN one is settled (R5, R156). -/
theorem emptySlot_spec {s : State} {i : Nat} {k : Key} (hk : s.key i = some k) :
    (∀ j, (s.emptySlot i).key j = if j = i then none else s.key j)
      ∧ (s.emptySlot i).keys.slots.length = s.keys.slots.length
      ∧ (s.emptySlot i).keys.generation = s.keys.generation
      ∧ (s.emptySlot i).revocations =
          if k.state = .withdrawn then settleRevocation s.nowSeconds k.keyId s.revocations else s.revocations := by
  have hkeys : (s.emptySlot i).keys = (s.setKey i none).keys := by
    simp only [State.emptySlot, hk]
    split <;> rfl
  refine ⟨fun j => ?_, ?_, ?_, ?_⟩
  · rw [key_congr hkeys]
    exact key_setKey hk _ j
  · rw [hkeys]
    exact setKey_length s _ _
  · rw [hkeys]
    rfl
  · simp only [State.emptySlot, hk]
    split <;> rfl

theorem emptySlot_report (s : State) (i : Nat) : (s.emptySlot i).report = s.report := by
  unfold State.emptySlot
  split
  · rfl
  · split <;> rfl

theorem reachFreeing_taken {s : State} {b : Boundary} {k : Key} (hstate : s.clock.state ≠ .unset)
    (hk : s.key b.slot = some k) (hb : b.kind = .freeing) (hw : k.state = .closed ∨ k.state = .withdrawn) :
    BoundaryTaken s b k (s.takeBoundary b) := by
  have ht : s.takeBoundary b = (s.handOver (s.keyFreedRecord .graceEnded b.slot k)).emptySlot b.slot := by
    simp [State.takeBoundary, hk, hb, State.reachFreeing, hw]
  have hrecord : s.boundaryRecord s.nowSeconds b = some (s.keyFreedRecord .graceEnded b.slot k) := by
    simp only [State.boundaryRecord, hk, hb, State.keyFreedRecord, State.keyTimeRecord, recordSeconds_eq hstate]
    rfl
  obtain ⟨hkeys, hslots, hgen, hrev⟩ :=
    emptySlot_spec (s := s.handOver (s.keyFreedRecord .graceEnded b.slot k)) (i := b.slot) (k := k) hk
  have htouch := emptySlot_touches (s.handOver (s.keyFreedRecord .graceEnded b.slot k)) b.slot
  rw [ht]
  refine ⟨fun j => ?_, hslots, ?_, ?_, fun j => ?_, [], ?_, by simp [hb], fun _ => rfl⟩
  · rw [hkeys j, hb]
    rfl
  · rw [hgen, hb]
    exact (BitVec.add_zero _).symm
  · rw [hrev]
    simp [hb]
    rfl
  · rw [lease_congr (htouch .leases (by simp))]
    simp [hb]
    rfl
  · rw [hrecord]
    have hreport := emptySlot_report (s.handOver (s.keyFreedRecord .graceEnded b.slot k)) b.slot
    rw [hreport]
    exact handsOver_handOver s _

theorem takeBoundary_taken {s : State} {b : Boundary} {k : Key} {rest : List Boundary}
    (hstate : s.clock.state ≠ .unset) (hk : s.key b.slot = some k) (hb : k.boundaries b.slot = b :: rest) :
    BoundaryTaken s b k (s.takeBoundary b) := by
  obtain ⟨_, hkind⟩ := boundaries_head hb
  cases hk' : b.kind <;> rw [hk'] at hkind
  · exact reachNotBefore_taken hstate hk hk' hkind.1
  · exact reachNotAfter_taken hstate hk hk' hkind.1
  · exact reachFreeing_taken hstate hk hk' hkind.1

/-- An induction over the boundaries that an announcement takes: each is the first of its slot's key, and at the end
none is due. -/
theorem keysAnnounced_rec {now : Nat} {P : List Boundary → State → Prop} {s : State} (hnow : s.nowSeconds = now)
    (hstate : s.clock.state ≠ .unset) (hr : s.keysInRange) (start : P s.dueBoundaries s)
    (step : ∀ b l v k rest, P (b :: l) v → v.clock = s.clock → v.key b.slot = some k →
      k.boundaries b.slot = b :: rest → b.time ≤ now → BoundaryTaken v b k (v.takeBoundary b) →
      P l (v.takeBoundary b)) :
    P [] s.keysAnnounced ∧ ∀ i k, s.keysAnnounced.key i = some k → ∀ b ∈ k.boundaries i, now < b.time := by
  have h : ∀ (l : List Boundary) (v : State), v.clock = s.clock → v.keysInRange → v.fits now l → P l v →
      P [] (l.foldl State.takeBoundary v) ∧ (l.foldl State.takeBoundary v).fits now [] := by
    intro l
    induction l with
    | nil => exact fun v _ _ hf hp => ⟨hp, hf⟩
    | cons b l ih =>
      intro v hclock hrange hfits hp
      obtain ⟨k, rest, hk, hb, htime⟩ := fits_head hrange hfits
      have htaken := takeBoundary_taken (hclock ▸ hstate) hk hb
      refine ih _ ((takeBoundary_touches v b .clock (by simp)).trans hclock) (fun i k' hk' => ?_)
        (fits_tail hfits hk hb htime htaken.keys) (step b l v k rest hp hclock hk hb htime htaken)
      rw [htaken.keys i] at hk'
      split at hk'
      · exact keyMoved_inRange (take_moved hb hk') (hrange _ k hk)
      · exact hrange i k' hk'
  obtain ⟨hp, hf⟩ := h s.dueBoundaries s rfl hr (hnow ▸ dueBoundaries_fits hr) start
  refine ⟨hp, fun i k hk b hb => ?_⟩
  have hnone := hf i
  rw [List.filter_nil, show (s.dueBoundaries.foldl State.takeBoundary s).key i = some k from hk, dueOf,
    boundariesOf] at hnone
  simpa using List.filter_eq_nil_iff.mp hnone.symm b hb

end Sys2Proof.Machine
end

section
/-! How far an announcement or a RESYNC has come: one relation between the state before it and any state within it, kept
by each boundary taken, each lease changed and each key handed back (R20 to R27, R67, R68, R70, R156). -/

namespace Sys2Proof.Machine

/-! ## The revocation list beside freed slots -/

theorem freed_iff {s t : State} (hu : s.keysUnique)
    (hfrom : ∀ i k', t.key i = some k' → ∃ k, s.key i = some k ∧ k'.keyId = k.keyId) {id : KeyId} :
    s.freed t id = true ↔ ∃ i k, s.key i = some k ∧ k.keyId = id ∧ k.state = .withdrawn ∧ t.key i = none := by
  simp only [State.freed, Bool.and_eq_true, Option.any_eq_true, decide_eq_true_eq, Option.isNone_iff_eq_none,
    findKey_eq_none]
  constructor
  · rintro ⟨⟨⟨i, k⟩, hfind, hstate⟩, hnone⟩
    obtain ⟨hk, hid⟩ := (findKey_eq_some hu).mp hfind
    refine ⟨i, k, hk, hid, hstate, ?_⟩
    cases ht : t.key i with
    | none => rfl
    | some k' =>
      obtain ⟨k'', hk'', hid'⟩ := hfrom i k' ht
      rw [hk] at hk''
      cases hk''
      exact absurd (hid'.trans hid) (hnone i k' ht)
  · rintro ⟨i, k, hk, hid, hstate, ht⟩
    refine ⟨⟨(i, k), (findKey_eq_some hu).mpr ⟨hk, hid⟩, hstate⟩, fun j k' hk' hid' => ?_⟩
    obtain ⟨k'', hk'', hid''⟩ := hfrom j k' hk'
    obtain rfl := hu i j k k'' hk hk'' (hid.trans (hid''.symm.trans hid').symm)
    rw [ht] at hk'
    cases hk'

theorem listSettled_congr {s t u : State} (now : Nat) (h : ∀ id, s.freed t id = s.freed u id) :
    s.listSettled t now = s.listSettled u now := by
  simp [State.listSettled, h]

/-- Where no WITHDRAWN slot has become EMPTY the list stands (R156). -/
theorem listSettled_self {s t : State} (now : Nat) (h : ∀ id, s.freed t id = false) :
    s.listSettled t now = s.revocations := by
  simp [State.listSettled, h]

theorem settledEntry_keyId {now : Nat} {r r' : Revocation} (h : settledEntry now r = some r') : r'.keyId = r.keyId := by
  unfold settledEntry at h
  split at h
  · split at h <;> cases h
    rfl
  · cases h
    rfl

/-- One more WITHDRAWN slot becomes EMPTY: its key's entry is settled with those before (R156). -/
theorem listSettled_settle {s t u : State} {now : Nat} {id : KeyId} (hid : s.freed u id = false)
    (h : ∀ id', s.freed t id' = (s.freed u id' || decide (id' = id))) :
    settleRevocation now id (s.listSettled u now) = s.listSettled t now := by
  rw [settleRevocation, State.listSettled, State.listSettled, List.filterMap_filterMap]
  refine congrArg (fun f => List.filterMap f s.revocations) (funext fun r => ?_)
  rw [h]
  by_cases hr : r.keyId = id
  · rw [hr, hid]
    simp [Revocation.settled, settledEntry, hr]
  · have hkeep : ∀ r', r'.keyId = r.keyId → Revocation.settled now id r' = some r' := by
      intro r' hr'
      simp [Revocation.settled, hr', hr]
    simp only [hr, decide_false, Bool.or_false]
    split
    · cases hs : settledEntry now r with
      | none => rfl
      | some r' => exact hkeep r' (settledEntry_keyId hs)
    · exact hkeep r rfl

/-! ## What becomes of a key and of a lease -/

/-- The LEASE_RESUMED record of a lease (R70). -/
def resumedRecord (now stream : Nat) (sh : Show) (saved : SavedState) (since : Nat) : Record :=
  recordOfShow (BitVec.ofNat 40 now) .leaseResumed 0 stream sh.tag (saved.code.setWidth 32) (BitVec.ofNat 32 since)
    (BitVec.ofNat 32 (since / 2 ^ 32 % 256))

/-- How far a key has come: a lease's end has freed it, with its record, or its first boundaries are taken, all of them
reached and each with its record (R20 to R27). -/
def KeyPath (s : State) (now : Nat) (t : State) (records : List Record) (slot : Nat) (k : Key) : Prop :=
  (k.state = .withdrawn ∧ s.anyLists k.keyId = true ∧ t.anyLists k.keyId = false ∧ t.key slot = none
      ∧ lastEndRecord now slot k ∈ records)
    ∨ ∃ taken rest, k.boundaries slot = taken ++ rest ∧ t.key slot = k.after taken
        ∧ boundariesOf slot (t.key slot) = rest ∧ (∀ k', t.key slot = some k' → KeyMoved k k')
        ∧ ∀ b ∈ taken, b.time ≤ now ∧ ∀ q, s.boundaryRecord now b = some q → q ∈ records

/-- How far a lease has come, in an announcement, or in a RESYNC with its resume notice (R67, R68, R70). -/
inductive LeasePath (s : State) (now : Nat) (resuming : Prop) (records : List Record) (i : Nat) : Lease → Lease → Prop
  | stays (l : Lease) : LeasePath s now resuming records i l l
  | ends {st : Serving} {sh : Show} (reached : sh.hardEnd ≤ now)
      (record : recordOfEnd (BitVec.ofNat 40 now) i .expired sh ∈ records) :
      LeasePath s now resuming records i (.serving st sh) .idle
  | overruns {sh : Show} {id : KeyId} (listed : id ∈ sh.keys) (closing : s.closing now id = true)
      (record : overrunRecord (BitVec.ofNat 40 now) i sh id ∈ records) :
      LeasePath s now resuming records i (.serving .running sh) (.serving .overrun sh)
  | resumes {saved : SavedState} {since : Nat} {sh : Show} (notice : resuming)
      (good : saved = .running → sh.keys.find? (s.runOut now) = none) :
      LeasePath s now resuming records i (.serving (.held saved since) sh) (.serving saved.serving sh)
  | resumesOverrun {since : Nat} {sh : Show} {id : KeyId} (notice : resuming)
      (out : sh.keys.find? (s.runOut now) = some id)
      (record : overrunRecord (BitVec.ofNat 40 now) i sh id ∈ records) :
      LeasePath s now resuming records i (.serving (.held .running since) sh) (.serving .overrun sh)
  | drops {tag : BitVec 16} {refusal : LeaseRefusal} (notice : resuming) (cause : refusal.cause = .clock) :
      LeasePath s now resuming records i (.refused tag refusal) .idle

theorem keyPath_mono {s t u : State} {now slot : Nat} {k : Key} {l m : List Record} (hlm : l ⊆ m)
    (hkey : u.key slot = t.key slot) (hlists : t.anyLists k.keyId = false → u.anyLists k.keyId = false)
    (h : KeyPath s now t l slot k) : KeyPath s now u m slot k := by
  rcases h with ⟨h1, h2, h3, h4, h5⟩ | ⟨taken, rest, h1, h2, h3, h4, h5⟩
  · exact .inl ⟨h1, h2, hlists h3, hkey.trans h4, hlm h5⟩
  · exact .inr ⟨taken, rest, h1, hkey.trans h2, hkey.symm ▸ h3, hkey.symm ▸ h4,
      fun b hb => ⟨(h5 b hb).1, fun q hq => hlm ((h5 b hb).2 q hq)⟩⟩

theorem leasePath_mono {s : State} {now i : Nat} {resuming : Prop} {l m : List Record} {a b : Lease} (hlm : l ⊆ m)
    (h : LeasePath s now resuming l i a b) : LeasePath s now resuming m i a b := by
  cases h with
  | stays => exact .stays _
  | ends reached record => exact .ends reached (hlm record)
  | overruns listed closing record => exact .overruns listed closing (hlm record)
  | resumes notice good => exact .resumes notice good
  | resumesOverrun notice out record => exact .resumesOverrun notice out (hlm record)
  | drops notice cause => exact .drops notice cause

/-- A lease that serves a show has served it all along. -/
theorem leasePath_serving {s : State} {now i : Nat} {resuming : Prop} {l : List Record} {a : Lease} {st : Serving}
    {sh : Show} (h : LeasePath s now resuming l i a (.serving st sh)) : ∃ st', a = .serving st' sh := by
  cases h with
  | stays => exact ⟨_, rfl⟩
  | overruns => exact ⟨_, rfl⟩
  | resumes => exact ⟨_, rfl⟩
  | resumesOverrun => exact ⟨_, rfl⟩

/-- A serving lease ends at its hard end, however far it had come. -/
theorem leasePath_ends {s : State} {now i : Nat} {resuming : Prop} {l : List Record} {a : Lease} {st : Serving}
    {sh : Show} (h : LeasePath s now resuming l i a (.serving st sh)) (reached : sh.hardEnd ≤ now)
    (record : recordOfEnd (BitVec.ofNat 40 now) i .expired sh ∈ l) : LeasePath s now resuming l i a .idle := by
  obtain ⟨st', rfl⟩ := leasePath_serving h
  exact .ends reached record

/-- How many WAITING keys of a state have left that state. -/
def openedCount (s t : State) : Nat :=
  (List.range s.keys.slots.length).countP
    (fun i => (s.key i).any (fun k => decide (k.state = .waiting))
      && !(t.key i).any (fun k => decide (k.state = .waiting)))

/-- How far an announcement has come from a state, with the records handed over and the key IDs of an ended lease still
to be handed back; of a RESYNC too, with its resume notice. -/
structure Progress (s : State) (now : Nat) (resuming : Prop) (ids : List KeyId) (t : State) (records : List Record) :
    Prop where
  time : t.nowSeconds = now
  runs : t.clock.state ≠ .unset
  report : HandsOver s.report t.report records
  slots : t.keys.slots.length = s.keys.slots.length
  empty : ∀ i, s.key i = none → t.key i = none
  keys : ∀ i k, s.key i = some k → KeyPath s now t records i k
  handed : ∀ i k, s.key i = some k → k.state = .withdrawn → s.anyLists k.keyId = true → t.anyLists k.keyId = false →
    k.keyId ∉ ids → t.key i = none
  leases : ∀ i, LeasePath s now resuming records i (s.lease i) (t.lease i)
  closed : ∀ i k, s.key i = some k → k.closesBy now = true → (∀ k', t.key i = some k' → k'.closesBy now = false) →
    ∀ j < 16, ∀ sh, t.lease j = .serving .running sh → k.keyId ∉ sh.keys
  revocations : t.revocations = s.listSettled t now
  generation : t.keys.generation = s.keys.generation + BitVec.ofNat 16 (openedCount s t)

section Progress

variable {s t u : State} {now : Nat} {resuming : Prop} {ids : List KeyId} {records : List Record}

theorem Progress.recordSeconds (h : Progress s now resuming ids t records) :
    t.recordSeconds = BitVec.ofNat 40 now := by rw [recordSeconds_eq h.runs, h.time]

/-- A key that stands was there before, and is the same but for its state and its notice. -/
theorem Progress.key_from (h : Progress s now resuming ids t records) {i : Nat} {k' : Key} (hk' : t.key i = some k') :
    ∃ k, s.key i = some k ∧ KeyMoved k k' := by
  cases hk : s.key i with
  | none =>
    rw [h.empty i hk] at hk'
    cases hk'
  | some k =>
    refine ⟨k, rfl, ?_⟩
    rcases h.keys i k hk with ⟨_, _, _, hnone, _⟩ | ⟨_, _, _, _, _, hmoved, _⟩
    · rw [hnone] at hk'
      cases hk'
    · exact hmoved k' hk'

theorem Progress.freed_iff (h : Progress s now resuming ids t records) (hu : s.keysUnique) {id : KeyId} :
    s.freed t id = true ↔ ∃ i k, s.key i = some k ∧ k.keyId = id ∧ k.state = .withdrawn ∧ t.key i = none :=
  Machine.freed_iff hu (fun i k' hk' => by
    obtain ⟨k, hk, hmoved⟩ := h.key_from hk'
    exact ⟨k, hk, keyMoved_keyId hmoved⟩)

theorem Progress.keysUnique (h : Progress s now resuming ids t records) (hu : s.keysUnique) : t.keysUnique := by
  intro i j k k' hi hj hid
  obtain ⟨k0, hk0, hm⟩ := h.key_from hi
  obtain ⟨k0', hk0', hm'⟩ := h.key_from hj
  exact hu i j k0 k0' hk0 hk0' (by rw [← keyMoved_keyId hm, hid, keyMoved_keyId hm'])

theorem Progress.keysInRange (h : Progress s now resuming ids t records) (hr : s.keysInRange) : t.keysInRange := by
  intro i k hk
  obtain ⟨k0, hk0, hm⟩ := h.key_from hk
  exact keyMoved_inRange hm (hr i k0 hk0)

/-- Where the keys' places are the same, so is the settled list. -/
theorem listSettled_eq_of_key {v : State} (hkey : ∀ i, v.key i = t.key i) :
    s.listSettled v now = s.listSettled t now := by
  refine listSettled_congr now (fun id => ?_)
  have hfind : (v.findKey id).isNone = (t.findKey id).isNone := by
    rw [Bool.eq_iff_iff, Option.isNone_iff_eq_none, Option.isNone_iff_eq_none, findKey_eq_none, findKey_eq_none]
    simp [hkey]
  simp [State.freed, hfind]

/-- An announcement or a RESYNC begins with the keys, leases and list as they stood. -/
theorem progress_start (hu : s.keysUnique) (hnow : t.nowSeconds = now) (hruns : t.clock.state ≠ .unset)
    (hreport : HandsOver s.report t.report records) (hkeys : t.keys = s.keys) (hleases : t.leases = s.leases)
    (hrevocations : t.revocations = s.revocations) : Progress s now resuming [] t records := by
  have hkey : ∀ i, t.key i = s.key i := key_congr hkeys
  have hlists : ∀ id, t.anyLists id = s.anyLists id := fun id => anyLists_congr (fun i => by rw [lease_congr hleases])
  refine ⟨hnow, hruns, hreport, by rw [hkeys], fun i hi => (hkey i).trans hi, fun i k hk => ?_,
    fun i k _ _ hl hl' _ => ?_, fun i => ?_, fun i k hk hcloses hnot => ?_, ?_, ?_⟩
  · have hk' : t.key i = some k := (hkey i).trans hk
    refine .inr ⟨[], _, rfl, hk', by rw [hk']; rfl, fun k' h => ?_, by simp⟩
    rw [hk'] at h
    cases h
    exact keyMoved_refl k
  · rw [hlists, hl] at hl'
    cases hl'
  · rw [lease_congr hleases]
    exact .stays _
  · rw [hnot k ((hkey i).trans hk)] at hcloses
    cases hcloses
  · rw [hrevocations, listSettled_self]
    intro id
    rw [← Bool.not_eq_true, Machine.freed_iff hu (fun i k' hk' => ⟨k', (hkey i).symm.trans hk', rfl⟩)]
    rintro ⟨i, k, hk, _, _, hnone⟩
    rw [hkey i, hk] at hnone
    cases hnone
  · have hcount : openedCount s t = 0 := by
      rw [openedCount, List.countP_eq_zero]
      intro i _
      simp [hkey i]
    rw [hkeys, hcount]
    exact (BitVec.add_zero _).symm

/-! ## A lease changes -/

/-- One lease takes another form with its records: it lists no key that it did not list, and the keys it no longer lists
are still to be handed back. -/
theorem Progress.lease (h : Progress s now resuming [] t records) {i : Nat} {l : Lease} {more : List Record}
    (hclock : u.clock = t.clock) (hkeys : u.keys = t.keys) (hrevocations : u.revocations = t.revocations)
    (hreport : HandsOver t.report u.report more) (hlease : ∀ j, u.lease j = if j = i then l else t.lease j)
    (hless : ∀ id, l.lists id = true → (t.lease i).lists id = true)
    (hids : ∀ id, (t.lease i).lists id = true → l.lists id = true ∨ id ∈ ids)
    (hpath : LeasePath s now resuming (records ++ more) i (s.lease i) l)
    (hclosed : ∀ sh, l = .serving .running sh → ∀ n k, s.key n = some k → k.closesBy now = true →
      (∀ k', t.key n = some k' → k'.closesBy now = false) → k.keyId ∉ sh.keys) :
    Progress s now resuming ids u (records ++ more) := by
  have hkey : ∀ j, u.key j = t.key j := key_congr hkeys
  have hsub : records ⊆ records ++ more := List.subset_append_left _ _
  have hlists : ∀ id, t.anyLists id = false → u.anyLists id = false := by
    intro id hid
    rw [anyLists_false] at hid ⊢
    intro j
    rw [hlease j]
    split
    · rw [← Bool.not_eq_true]
      exact fun hl => absurd (hless id hl) (by simp [hid i])
    · exact hid j
  refine ⟨(nowSeconds_congr hclock).trans h.time, hclock ▸ h.runs, handsOver_trans h.report hreport,
    by rw [hkeys, h.slots], fun j hj => (hkey j).trans (h.empty j hj),
    fun j k hk => keyPath_mono hsub (hkey j) (hlists _) (h.keys j k hk), fun j k hk hw hl hl' hnot => ?_, fun j => ?_,
    fun n k hk hcloses hnot j hj sh hsh => ?_, ?_, ?_⟩
  · rw [hkey j]
    refine h.handed j k hk hw hl (anyLists_false.mpr (fun n => ?_)) List.not_mem_nil
    have hn := anyLists_false.mp hl' n
    rw [hlease n] at hn
    split at hn
    · rename_i hni
      subst hni
      rw [← Bool.not_eq_true]
      intro hlist
      rcases hids _ hlist with hlist' | hmem
      · rw [hn] at hlist'
        cases hlist'
      · exact hnot hmem
    · exact hn
  · rw [hlease j]
    split
    · rename_i hj
      exact hj ▸ hpath
    · exact leasePath_mono hsub (h.leases j)
  · simp only [hkey] at hnot
    rw [hlease j] at hsh
    split at hsh
    · exact hclosed sh hsh n k hk hcloses hnot
    · exact h.closed n k hk hcloses hnot j hj sh hsh
  · rw [hrevocations, h.revocations, listSettled_eq_of_key hkey]
  · rw [hkeys, h.generation]
    simp [openedCount, hkey]

/-- A WITHDRAWN slot becomes EMPTY: its key's entry is settled with those before (R156). -/
theorem listSettled_emptied (hu : s.keysUnique) (hfrom : ∀ j k', t.key j = some k' →
      ∃ k, s.key j = some k ∧ k'.keyId = k.keyId ∧ (k'.state = .withdrawn → k.state = .withdrawn))
    (hrevocations : t.revocations = s.listSettled t now) {i : Nat} {k : Key} (hk : t.key i = some k)
    (hw : k.state = .withdrawn) (hkeys : ∀ j, u.key j = if j = i then none else t.key j) :
    settleRevocation now k.keyId t.revocations = s.listSettled u now := by
  obtain ⟨k0, hk0, hid, hw0⟩ := hfrom i k hk
  have hother : ∀ j ≠ i, u.key j = t.key j := fun j hj => by rw [hkeys j, if_neg hj]
  have hself : u.key i = none := by rw [hkeys i, if_pos rfl]
  have hfromt : ∀ j k', t.key j = some k' → ∃ k, s.key j = some k ∧ k'.keyId = k.keyId := by
    intro j k' hk'
    obtain ⟨k1, hk1, hid1, _⟩ := hfrom j k' hk'
    exact ⟨k1, hk1, hid1⟩
  have hfromu : ∀ j k', u.key j = some k' → ∃ k, s.key j = some k ∧ k'.keyId = k.keyId := by
    intro j k' hk'
    have hj : j ≠ i := fun e => by rw [e, hself] at hk'; cases hk'
    exact hfromt j k' ((hother j hj).symm.trans hk')
  rw [hrevocations]
  refine listSettled_settle ?_ (fun id' => ?_)
  · rw [← Bool.not_eq_true, Machine.freed_iff hu hfromt]
    rintro ⟨j, k1, hk1, hid1, _, hnone1⟩
    obtain rfl := hu j i k1 k0 hk1 hk0 (hid1.trans hid)
    rw [hk] at hnone1
    cases hnone1
  · rw [Bool.eq_iff_iff, Machine.freed_iff hu hfromu, Bool.or_eq_true, Machine.freed_iff hu hfromt, decide_eq_true_eq]
    constructor
    · rintro ⟨j, k1, hk1, hid1, hw1, hnone1⟩
      by_cases hj : j = i
      · subst hj
        rw [hk0] at hk1
        cases hk1
        exact .inr (hid1.symm.trans hid.symm)
      · exact .inl ⟨j, k1, hk1, hid1, hw1, (hother j hj).symm.trans hnone1⟩
    · rintro (⟨j, k1, hk1, hid1, hw1, hnone1⟩ | rfl)
      · refine ⟨j, k1, hk1, hid1, hw1, (hother j (fun e => ?_)).trans hnone1⟩
        rw [e, hk] at hnone1
        cases hnone1
      · exact ⟨i, k0, hk0, hid.symm, hw0 hw, hself⟩

theorem Progress.settle (h : Progress s now resuming ids t records) (hu : s.keysUnique) {i : Nat} {k : Key}
    (hk : t.key i = some k) (hw : k.state = .withdrawn) (hkeys : ∀ j, u.key j = if j = i then none else t.key j) :
    settleRevocation now k.keyId t.revocations = s.listSettled u now :=
  listSettled_emptied hu (fun j k' hk' => by
    obtain ⟨k1, hk1, hm⟩ := h.key_from hk'
    exact ⟨k1, hk1, keyMoved_keyId hm, hm.2.mp⟩) h.revocations hk hw hkeys

/-! ## A boundary is taken -/

/-- A moved key's record of a boundary is the key's own. -/
theorem boundaryRecord_moved {b : Boundary} {k k' : Key} (hk : s.key b.slot = some k) (hk' : t.key b.slot = some k')
    (hmoved : KeyMoved k k') : t.boundaryRecord now b = s.boundaryRecord now b := by
  obtain ⟨hsame, hstate⟩ := hmoved
  simp only [State.boundaryRecord, hk, hk', hstate]
  rw [hsame]
  rfl

theorem leasePath_noticed (hu : s.keysUnique) {i n : Nat} {k : Key} {a l : Lease} (hk : s.key n = some k)
    (hcloses : k.closesBy now = true) (hmore : ∀ sh, l = .serving .running sh → k.keyId ∈ sh.keys →
      overrunRecord (BitVec.ofNat 40 now) i sh k.keyId ∈ records)
    (h : LeasePath s now resuming records i a l) : LeasePath s now resuming records i a (l.noticed k.keyId) := by
  have hclosing : s.closing now k.keyId = true :=
    List.any_eq_true.mpr ⟨k, mem_heldKeys.mpr ⟨n, hk⟩, by simp [hcloses]⟩
  have hout : s.runOut now k.keyId = true := by
    have hafter : k.notAfter ≤ now := by
      simp only [Key.closesBy, decide_eq_true_eq] at hcloses
      exact hcloses.1
    simp [State.runOut, (findKey_eq_some hu).mpr ⟨hk, rfl⟩, hafter]
  unfold Lease.noticed
  split
  · rename_i sh
    split
    · rename_i hmem
      have hmem' : k.keyId ∈ sh.keys := by simpa using hmem
      generalize hl : Lease.serving .running sh = l' at h
      cases h with
      | stays => exact hl ▸ .overruns hmem' hclosing (hmore _ rfl hmem')
      | resumes notice good =>
        rename_i saved _ _
        cases saved with
        | running =>
          cases hl
          exact absurd hout (List.find?_eq_none.mp (good rfl) _ hmem')
        | overrun => cases hl
      | ends => cases hl
      | overruns => cases hl
      | resumesOverrun => cases hl
      | drops => cases hl
    · exact h
  all_goals exact h

theorem openedCount_congr (hkey : ∀ i k, s.key i = some k → k.state = .waiting →
      (u.key i).any (fun k => decide (k.state = .waiting)) = (t.key i).any (fun k => decide (k.state = .waiting))) :
    openedCount s u = openedCount s t := by
  refine List.countP_congr (fun i _ => ?_)
  cases hk : s.key i with
  | none => simp
  | some k =>
    by_cases hw : k.state = .waiting
    · rw [hkey i k hk hw]
    · simp [hw]

/-- A count over a range in which one number alone is new. -/
theorem countP_range_succ {p q : Nat → Bool} {i n : Nat} (hi : i < n) (hp : p i = false) (hq : q i = true)
    (hrest : ∀ j ≠ i, q j = p j) : (List.range n).countP q = (List.range n).countP p + 1 := by
  induction n with
  | zero => omega
  | succ n ih =>
    simp only [List.range_succ, List.countP_append, List.countP_singleton]
    rcases Nat.lt_succ_iff_lt_or_eq.mp hi with h | rfl
    · rw [ih h, hrest n (by omega)]
      omega
    · rw [hq, hp, List.countP_congr (fun j hj => by rw [hrest j (List.mem_range.mp hj).ne])]
      simp

theorem openedCount_opens {i : Nat} {k k' : Key} (hk : s.key i = some k) (hw : k.state = .waiting)
    (ht : t.key i = some k') (hw' : k'.state = .waiting)
    (hu : (u.key i).any (fun k => decide (k.state = .waiting)) = false) (hrest : ∀ j ≠ i, u.key j = t.key j) :
    openedCount s u = openedCount s t + 1 :=
  countP_range_succ (key_lt hk) (by simp [ht, hw']) (by simp [hk, hw, hu]) (fun j hj => by rw [hrest j hj])

/-- A WAITING key's path has taken no boundary. -/
theorem keyMoved_waiting {k k' : Key} {slot : Nat} {taken rest : List Boundary}
    (hk : k.boundaries slot = taken ++ rest) (hmoved : KeyMoved k k')
    (hrest : k'.boundaries slot = rest) (hw : k'.state = .waiting) : k.state = .waiting := by
  have hlen : taken.length + rest.length = (k.boundaries slot).length := by rw [hk, List.length_append]
  rw [← hrest] at hlen
  cases hs : k.state with
  | waiting => rfl
  | withdrawn =>
    rw [hmoved.2.mpr hs] at hw
    cases hw
  | opened => simp [Key.boundaries, hs, hw] at hlen
  | closed => simp [Key.boundaries, hs, hw] at hlen

/-- What a boundary's taking leaves of the other slots, and of the slot itself. -/
theorem taken_key_other {b : Boundary} {k : Key} (taken : BoundaryTaken t b k u) {j : Nat} (hj : j ≠ b.slot) :
    u.key j = t.key j := by rw [taken.keys j, if_neg hj]

theorem taken_key_self {b : Boundary} {k : Key} (taken : BoundaryTaken t b k u) : u.key b.slot = k.take b.kind := by
  rw [taken.keys, if_pos rfl]

/-- An EMPTY slot stays EMPTY. -/
theorem taken_key_empty {b : Boundary} {k : Key} (taken : BoundaryTaken t b k u) (hk : t.key b.slot = some k) {j : Nat}
    (hj : t.key j = none) : u.key j = none := by
  rw [taken_key_other taken (fun e => by rw [e, hk] at hj; cases hj), hj]

/-- A boundary changes no key list. -/
theorem taken_anyLists {b : Boundary} {k : Key} (taken : BoundaryTaken t b k u) (id : KeyId) :
    u.anyLists id = t.anyLists id := by
  refine anyLists_congr (fun j => ?_)
  rw [taken.leases j]
  split
  · exact noticed_lists _ _ _
  · rfl

theorem noticed_running {id : KeyId} {l : Lease} {sh : Show} (h : l.noticed id = .serving .running sh) :
    l = .serving .running sh ∧ id ∉ sh.keys := by
  unfold Lease.noticed at h
  split at h
  · rename_i sh'
    split at h
    · cases h
    · rename_i hnot
      cases h
      exact ⟨rfl, by simpa using hnot⟩
  all_goals cases h

/-- A freeing boundary alone empties a slot of a WITHDRAWN key. -/
theorem take_eq_none {k : Key} {kind : BoundaryKind} : k.take kind = none ↔ kind = .freeing := by
  cases kind
  · simp [Key.take]
  · simp only [Key.take, reduceCtorEq, iff_false]
    split <;> simp
  · simp [Key.take]

section Boundary

variable {b : Boundary} {k : Key} {rest : List Boundary}

/-- The key that stood at the slot before, and its boundaries taken since. -/
theorem Progress.at_slot (h : Progress s now resuming [] t records) (hk : t.key b.slot = some k)
    (hb : k.boundaries b.slot = b :: rest) :
    ∃ k0 done, s.key b.slot = some k0 ∧ KeyMoved k0 k ∧ k0.boundaries b.slot = done ++ b :: rest
      ∧ k0.after done = some k
      ∧ ∀ c ∈ done, c.time ≤ now ∧ ∀ q, s.boundaryRecord now c = some q → q ∈ records := by
  obtain ⟨k0, hk0, hmoved⟩ := h.key_from hk
  rcases h.keys _ k0 hk0 with ⟨_, _, _, hnone, _⟩ | ⟨done, left, hsplit, hafter, hleft, _, hdone⟩
  · rw [hk] at hnone
    cases hnone
  · rw [hk] at hleft hafter
    obtain rfl : b :: rest = left := hb.symm.trans hleft
    exact ⟨k0, done, hk0, hmoved, hsplit, hafter.symm, hdone⟩

theorem Progress.boundary_key_from (h : Progress s now resuming [] t records) (hk : t.key b.slot = some k)
    (hb : k.boundaries b.slot = b :: rest) (taken : BoundaryTaken t b k u) :
    ∀ i k', u.key i = some k' → ∃ k, s.key i = some k ∧ k'.keyId = k.keyId := by
  intro i k' hk'
  by_cases hi : i = b.slot
  · subst hi
    obtain ⟨k0, hk0, hmoved⟩ := h.key_from hk
    exact ⟨k0, hk0, keyMoved_keyId (keyMoved_trans hmoved (take_moved hb ((taken_key_self taken).symm.trans hk')))⟩
  · obtain ⟨k1, hk1, hm⟩ := h.key_from ((taken_key_other taken hi).symm.trans hk')
    exact ⟨k1, hk1, keyMoved_keyId hm⟩

/-- The list after a boundary: a WITHDRAWN slot that it frees has its entry settled (R156). -/
theorem Progress.boundary_revocations (h : Progress s now resuming [] t records) (hu : s.keysUnique)
    (hk : t.key b.slot = some k) (hb : k.boundaries b.slot = b :: rest) (taken : BoundaryTaken t b k u) :
    u.revocations = s.listSettled u now := by
  have hfrom := h.boundary_key_from hk hb taken
  obtain ⟨k0, hk0, hmoved⟩ := h.key_from hk
  rw [taken.revocations, h.time]
  split
  · rename_i hcase
    refine h.settle hu hk hcase.2 (fun j => ?_)
    rw [taken.keys, take_eq_none.mpr hcase.1]
  · rename_i hcase
    rw [h.revocations]
    refine (listSettled_congr now (fun id' => ?_)).symm
    rw [Bool.eq_iff_iff, Machine.freed_iff hu hfrom, h.freed_iff hu]
    refine exists_congr (fun i => exists_congr (fun k1 => and_congr_right fun hk1 => and_congr_right fun _ =>
      and_congr_right fun hw1 => ?_))
    by_cases hi : i = b.slot
    · subst hi
      rw [hk0] at hk1
      cases hk1
      rw [taken_key_self taken, hk, take_eq_none]
      exact iff_of_false (fun hkind => hcase ⟨hkind, hmoved.2.mpr hw1⟩) (by simp)
    · rw [taken_key_other taken hi]

/-- The generation after a boundary: a not-before alone raises it (R21). -/
theorem Progress.boundary_generation (h : Progress s now resuming [] t records) (hk : t.key b.slot = some k)
    (hb : k.boundaries b.slot = b :: rest) (taken : BoundaryTaken t b k u) :
    u.keys.generation = s.keys.generation + BitVec.ofNat 16 (openedCount s u) := by
  obtain ⟨k0, done, hk0, hmoved, hsplit, hafter, _⟩ := h.at_slot hk hb
  obtain ⟨_, hkind⟩ := boundaries_head hb
  rw [taken.generation, h.generation]
  by_cases hnb : b.kind = .notBefore
  · rw [hnb] at hkind
    have hopen : (u.key b.slot).any (fun k => decide (k.state = .waiting)) = false := by
      rw [taken_key_self taken, hnb]
      simp [Key.take]
    rw [if_pos hnb, openedCount_opens hk0 (keyMoved_waiting hsplit hmoved hb hkind.1) hk hkind.1 hopen
      (fun j => taken_key_other taken), BitVec.add_assoc]
    exact congrArg _ (BitVec.ofNat_add _ _).symm
  · have hnw : k.state ≠ .waiting := by
      intro hkw
      simp only [Key.boundaries, hkw, List.cons.injEq] at hb
      exact hnb (by rw [← hb.1])
    rw [if_neg hnb, openedCount_congr (u := u) (t := t) (fun i k1 _ _ => ?_)]
    · exact BitVec.add_zero _
    · by_cases hi : i = b.slot
      · subst hi
        rw [taken_key_self taken, hk]
        unfold Key.take
        split
        · exact absurd ‹_› hnb
        · split <;> simp [hnw]
        · simp [hnw]
      · rw [taken_key_other taken hi]

/-- A key that a boundary leaves with no closing notice to come had none before, unless the boundary was its
not-after. -/
theorem taken_closesBy (hk : t.key b.slot = some k) (hb : k.boundaries b.slot = b :: rest)
    (taken : BoundaryTaken t b k u) {n : Nat} (hne : b.kind ≠ .notAfter ∨ n ≠ b.slot)
    (hnot : ∀ k', u.key n = some k' → k'.closesBy now = false) : ∀ k', t.key n = some k' → k'.closesBy now = false := by
  intro k' hk'
  by_cases hn : n = b.slot
  · subst hn
    rw [hk] at hk'
    cases hk'
    rw [← Bool.not_eq_true, closesBy_iff b.slot]
    rintro ⟨c, hcmem, hckind, hctime⟩
    rw [hb] at hcmem
    have hcrest : c ∈ boundariesOf b.slot (k.take b.kind) := by
      rw [boundariesOf_take hb]
      exact (List.mem_cons.mp hcmem).resolve_left (fun e => hne.elim (· (e ▸ hckind)) (· rfl))
    cases htk : k.take b.kind with
    | none =>
      rw [htk] at hcrest
      cases hcrest
    | some k'' =>
      rw [htk] at hcrest
      have := hnot k'' ((taken_key_self taken).trans htk)
      rw [(closesBy_iff b.slot).mpr ⟨c, hcrest, hckind, hctime⟩] at this
      cases this
  · exact hnot k' ((taken_key_other taken hn).trans hk')

theorem Progress.boundary_closed (h : Progress s now resuming [] t records) (hk : t.key b.slot = some k)
    (hb : k.boundaries b.slot = b :: rest) (taken : BoundaryTaken t b k u) :
    ∀ i k, s.key i = some k → k.closesBy now = true → (∀ k', u.key i = some k' → k'.closesBy now = false) →
      ∀ j < 16, ∀ sh, u.lease j = .serving .running sh → k.keyId ∉ sh.keys := by
  intro n k1 hk1 hc hnot j hj sh hsh
  rw [taken.leases j] at hsh
  split at hsh
  · obtain ⟨hrun, hnotin⟩ := noticed_running hsh
    by_cases hn : n = b.slot
    · subst hn
      obtain ⟨k0, hk0, hmoved⟩ := h.key_from hk
      rw [hk0] at hk1
      cases hk1
      exact keyMoved_keyId hmoved ▸ hnotin
    · exact h.closed n k1 hk1 hc (taken_closesBy hk hb taken (.inr hn) hnot) j hj sh hrun
  · rename_i hcase
    exact h.closed n k1 hk1 hc (taken_closesBy hk hb taken (.inl (fun hkind => hcase ⟨hkind, hj⟩)) hnot) j hj sh hsh

/-- An announcement takes one boundary more, with its record, and at a not-after the OVERRUN records of the leases that
list the key. -/
theorem Progress.boundary (h : Progress s now resuming [] t records) (hu : s.keysUnique)
    (hk : t.key b.slot = some k) (hb : k.boundaries b.slot = b :: rest) (htime : b.time ≤ now)
    (hclock : u.clock = t.clock) (taken : BoundaryTaken t b k u) :
    ∃ overruns, Progress s now resuming [] u (records ++ ((s.boundaryRecord now b).toList ++ overruns))
      ∧ ((∀ j < 16, ∀ sh, t.lease j = .serving .running sh → ∀ id ∈ sh.keys, s.closing now id = false) →
          overruns = []) := by
  obtain ⟨k0, done, hk0, hmoved, hsplit, hafter, hdone⟩ := h.at_slot hk hb
  have hid : k.keyId = k0.keyId := keyMoved_keyId hmoved
  have hcloses : b.kind = .notAfter → k0.closesBy now = true := fun hkind =>
    (closesBy_iff b.slot).mpr ⟨b, hsplit ▸ List.mem_append_right _ List.mem_cons_self, hkind, htime⟩
  obtain ⟨overruns, hover, hmem, hnone⟩ := taken.report
  rw [h.time, boundaryRecord_moved hk0 hk hmoved] at hover
  rw [h.recordSeconds] at hmem
  have hsub : records ⊆ records ++ ((s.boundaryRecord now b).toList ++ overruns) := List.subset_append_left _ _
  refine ⟨overruns, ⟨(nowSeconds_congr hclock).trans h.time, hclock ▸ h.runs, handsOver_trans h.report hover,
    taken.slots.trans h.slots, fun j hj => taken_key_empty taken hk (h.empty j hj), fun j k1 hk1 => ?_,
    fun j k1 hk1 hw hl hl' hnot =>
      taken_key_empty taken hk (h.handed j k1 hk1 hw hl ((taken_anyLists taken _).symm.trans hl') hnot), fun j => ?_,
    h.boundary_closed hk hb taken, h.boundary_revocations hu hk hb taken, h.boundary_generation hk hb taken⟩,
    fun hquiet => hnone (fun hkind j hj sh hsh hin => ?_)⟩
  · by_cases hj : j = b.slot
    · subst hj
      rw [hk0] at hk1
      cases hk1
      refine .inr ⟨done ++ [b], rest, by simp [hsplit], ?_, ?_, fun k' hk' => ?_, fun c hc => ?_⟩
      · rw [taken_key_self taken, after_append, hafter]
        rfl
      · rw [taken_key_self taken, boundariesOf_take hb]
      · exact keyMoved_trans hmoved (take_moved hb ((taken_key_self taken).symm.trans hk'))
      · rcases List.mem_append.mp hc with hc | hc
        · exact ⟨(hdone c hc).1, fun q hq => hsub ((hdone c hc).2 q hq)⟩
        · cases List.mem_singleton.mp hc
          exact ⟨htime, fun q hq => List.mem_append_right _ (List.mem_append_left _ (by simp [hq]))⟩
    · exact keyPath_mono hsub (taken_key_other taken hj) (fun hl => (taken_anyLists taken _).trans hl)
        (h.keys j k1 hk1)
  · rw [taken.leases j]
    split
    · rename_i hcase
      rw [hid]
      refine leasePath_noticed hu hk0 (hcloses hcase.1) (fun sh hsh hin => ?_) (leasePath_mono hsub (h.leases j))
      rw [← hid] at hin ⊢
      exact List.mem_append_right _ (List.mem_append_right _ (hmem hcase.1 j hcase.2 sh hsh hin))
    · exact leasePath_mono hsub (h.leases j)
  · have hclosing : s.closing now k.keyId = true :=
      List.any_eq_true.mpr ⟨k0, mem_heldKeys.mpr ⟨_, hk0⟩, by simp [hid, hcloses hkind]⟩
    rw [hquiet j hj sh hsh k.keyId hin] at hclosing
    cases hclosing

end Boundary

end Progress

end Sys2Proof.Machine
end

section
/-! Leases that end and their hand-backs, within an announcement or a RESYNC (R27, R68, R74). -/

namespace Sys2Proof.Machine

/-! ## What an end leaves -/

theorem handBack_leases (s : State) (id : KeyId) : (s.handBack id).leases = s.leases :=
  handBack_touches s id .leases (by simp)

/-- A hand-back frees a slot or leaves it. -/
theorem handBack_key {s : State} {id : KeyId} {j : Nat} {k : Key} (h : (s.handBack id).key j = some k) :
    s.key j = some k := by
  unfold State.handBack at h
  split at h
  · exact h
  · rename_i slot k' hfind
    split at h
    · have hkey : (s.handOver (s.keyFreedRecord .lastLeaseEnded slot k')).key slot = some k' := (findKey_some hfind).1
      rw [(emptySlot_spec hkey).1 j] at h
      split at h
      · cases h
      · exact h
    · exact h

theorem handBacks_leases (s : State) (ids : List KeyId) : (ids.foldl State.handBack s).leases = s.leases := by
  induction ids generalizing s with
  | nil => rfl
  | cons id ids ih => exact (ih _).trans (handBack_leases s id)

theorem handBacks_key {s : State} {ids : List KeyId} {j : Nat} {k : Key}
    (h : (ids.foldl State.handBack s).key j = some k) :
    s.key j = some k := by
  induction ids generalizing s with
  | nil => exact h
  | cons id ids ih => exact handBack_key (ih h)

theorem endLease_expired {s : State} {i : Nat} {st : Serving} {sh : Show} (h : s.lease i = .serving st sh) :
    s.endLease i .expired =
      sh.keys.foldl State.handBack ((s.handOver (s.leaseEndedRecord i .expired sh)).setLease i .idle) := by
  simp [State.endLease, h]

theorem endLease_expired_lease {s : State} {i : Nat} {st : Serving} {sh : Show} (h : s.lease i = .serving st sh)
    (j : Nat) : (s.endLease i .expired).lease j = if j = i then .idle else s.lease j := by
  rw [endLease_expired h, lease_congr (handBacks_leases _ _)]
  refine (lease_setLease (s := s.handOver (s.leaseEndedRecord i .expired sh)) (i := i) ?_ .idle j)
  rw [handOver_lease, h]
  simp

theorem endLease_expired_key {s : State} {i : Nat} {st : Serving} {sh : Show} (h : s.lease i = .serving st sh)
    {j : Nat} {k : Key} (hk : (s.endLease i .expired).key j = some k) : s.key j = some k := by
  rw [endLease_expired h] at hk
  have := handBacks_key hk
  exact this

/-- A lease at an announcement's reading: IDLE from its hard end on (R68). -/
def Lease.expired (now : Nat) : Lease → Lease
  | .serving st sh => if sh.hardEnd ≤ now then .idle else .serving st sh
  | .idle => .idle
  | .refused tag refusal => .refused tag refusal

/-- One lease at an announcement: it ends at its hard end, and nothing happens otherwise. -/
theorem expireOne_cases (i : Nat) (s : State) :
    (∃ st sh, s.lease i = .serving st sh ∧ sh.hardEnd ≤ s.nowSeconds ∧ State.expireOne i s = s.endLease i .expired)
      ∨ ((∀ st sh, s.lease i = .serving st sh → s.nowSeconds < sh.hardEnd) ∧ State.expireOne i s = s) := by
  unfold State.expireOne
  cases hl : s.lease i with
  | idle => exact .inr ⟨by simp, rfl⟩
  | refused tag refusal => exact .inr ⟨by simp, rfl⟩
  | serving st sh =>
    dsimp only
    split
    · rename_i hend
      exact .inl ⟨st, sh, rfl, hend, rfl⟩
    · rename_i hend
      refine .inr ⟨fun st' sh' h => ?_, rfl⟩
      cases h
      exact not_le.mp hend

theorem expireOne_lease (i : Nat) (s : State) (j : Nat) :
    (State.expireOne i s).lease j = if j = i then (s.lease j).expired s.nowSeconds else s.lease j := by
  rcases expireOne_cases i s with ⟨st, sh, hl, hend, he⟩ | ⟨hlive, he⟩
  · rw [he, endLease_expired_lease hl]
    split
    · rename_i hj
      rw [hj, hl, Lease.expired, if_pos hend]
    · rfl
  · rw [he]
    split
    · rename_i hj
      subst hj
      cases hl : s.lease j with
      | serving st sh => rw [Lease.expired, if_neg (not_le.mpr (hlive st sh hl))]
      | idle => rfl
      | refused tag refusal => rfl
    · rfl

/-- The lease unit's announcement: every lease of the streams at its hard end is IDLE, and the others stay (R68). -/
theorem leasesAnnounced_lease (s : State) (j : Nat) :
    s.leasesAnnounced.lease j = if j < 16 then (s.lease j).expired s.nowSeconds else s.lease j := by
  refine (forStreams_rec (s := s) (f := State.expireOne)
    (P := fun n v => v.clock = s.clock
      ∧ ∀ j, v.lease j = if j < n then (s.lease j).expired s.nowSeconds else s.lease j) ⟨rfl, by simp⟩ ?_).2 j
  rintro i - v ⟨hclock, hleases⟩
  refine ⟨(expireOne_touches i v .clock (by simp)).trans hclock, fun j => ?_⟩
  rw [expireOne_lease, hleases j, nowSeconds_congr hclock]
  rcases lt_trichotomy j i with h | h | h
  · rw [if_neg h.ne, if_pos h, if_pos (by omega)]
  · rw [if_pos h, if_neg (by omega), if_pos (by omega)]
  · rw [if_neg h.ne', if_neg (by omega), if_neg (by omega)]

theorem expired_serving {now : Nat} {l : Lease} {st : Serving} {sh : Show} (h : l.expired now = .serving st sh) :
    l = .serving st sh ∧ now < sh.hardEnd := by
  unfold Lease.expired at h
  split at h
  · split at h
    · cases h
    · cases h
      exact ⟨rfl, by omega⟩
  · cases h
  · cases h

/-! ## A hand-back within an announcement -/

section Progress

variable {s t u : State} {now : Nat} {resuming : Prop} {ids : List KeyId} {records : List Record}

/-- A key ID that finds no WITHDRAWN slot to free is handed back without an effect. -/
theorem Progress.handedBack {id : KeyId} (h : Progress s now resuming (id :: ids) t records)
    (hnone : ∀ i k, t.key i = some k → k.keyId = id → k.state = .withdrawn → t.anyLists id = true) :
    Progress s now resuming ids t records := by
  refine { h with handed := fun i k hk hw hl hl' hnot => ?_ }
  by_cases hid : k.keyId = id
  · cases hk' : t.key i with
    | none => rfl
    | some k' =>
      obtain ⟨k0, hk0, hmoved⟩ := h.key_from hk'
      rw [hk] at hk0
      cases hk0
      rw [hid, hnone i k' hk' ((keyMoved_keyId hmoved).trans hid) (hmoved.2.mpr hw)] at hl'
      cases hl'
  · exact h.handed i k hk hw hl hl' (by simp [hid, hnot])

/-- The slot of a WITHDRAWN key that no lease lists any more is freed, with its record (R27). -/
theorem Progress.freedAtEnd {id : KeyId} (h : Progress s now resuming (id :: ids) t records) (hu : s.keysUnique)
    (hlist : s.anyLists id = true) {i : Nat} {k : Key} (hk : t.key i = some k) (hid : k.keyId = id)
    (hw : k.state = .withdrawn) (hnot : t.anyLists id = false) :
    Progress s now resuming ids ((t.handOver (t.keyFreedRecord .lastLeaseEnded i k)).emptySlot i)
      (records ++ [t.keyFreedRecord .lastLeaseEnded i k]) := by
  obtain ⟨k0, hk0, hmoved⟩ := h.key_from hk
  have hid0 : k0.keyId = id := (keyMoved_keyId hmoved).symm.trans hid
  generalize hv : t.handOver (t.keyFreedRecord .lastLeaseEnded i k) = v
  have hvk : v.key i = some k := by rw [← hv]; exact hk
  obtain ⟨hkeys, hslots, hgen, hrev⟩ := emptySlot_spec hvk
  have hkeys' : ∀ j, (v.emptySlot i).key j = if j = i then none else t.key j := by
    intro j
    rw [hkeys j, ← hv]
    rfl
  have hself : (v.emptySlot i).key i = none := by rw [hkeys' i, if_pos rfl]
  have hother : ∀ j ≠ i, (v.emptySlot i).key j = t.key j := fun j hj => by rw [hkeys' j, if_neg hj]
  have htouch := emptySlot_touches v i
  have hclock : (v.emptySlot i).clock = t.clock := (htouch .clock (by simp)).trans (by rw [← hv]; rfl)
  have hleases : (v.emptySlot i).leases = t.leases := (htouch .leases (by simp)).trans (by rw [← hv]; rfl)
  have hlists : ∀ id', (v.emptySlot i).anyLists id' = t.anyLists id' :=
    fun id' => anyLists_congr (fun j => by rw [lease_congr hleases])
  have hrecord : t.keyFreedRecord .lastLeaseEnded i k = lastEndRecord now i k0 := by
    rw [State.keyFreedRecord, State.keyTimeRecord, h.recordSeconds, h.time, hmoved.1]
    rfl
  have hsub : records ⊆ records ++ [t.keyFreedRecord .lastLeaseEnded i k] := List.subset_append_left _ _
  refine ⟨(nowSeconds_congr hclock).trans h.time, hclock ▸ h.runs, ?_, ?_, fun j hj => ?_, fun j k1 hk1 => ?_,
    fun j k1 hk1 hw1 hl hl' hids => ?_, fun j => ?_, fun n k1 hk1 hcloses hmore j hj sh hsh => ?_, ?_, ?_⟩
  · rw [emptySlot_report, ← hv]
    exact handsOver_trans h.report (handsOver_handOver t _)
  · rw [hslots, ← hv]
    exact h.slots
  · rw [hkeys' j, h.empty j hj, ite_self]
  · by_cases hj : j = i
    · subst hj
      rw [hk0] at hk1
      cases hk1
      exact .inl ⟨hmoved.2.mp hw, hid0.symm ▸ hlist, by rw [hlists, hid0, hnot], hself, by simp [hrecord]⟩
    · exact keyPath_mono hsub (hother j hj) (fun hl => (hlists _).trans hl) (h.keys j k1 hk1)
  · by_cases hj : j = i
    · rw [hj, hself]
    · rw [hother j hj]
      refine h.handed j k1 hk1 hw1 hl ((hlists _).symm.trans hl') ?_
      rw [List.mem_cons, not_or]
      exact ⟨fun e => hj (hu j i k1 k0 hk1 hk0 (e.trans hid0.symm)), hids⟩
  · rw [lease_congr hleases]
    exact leasePath_mono hsub (h.leases j)
  · rw [lease_congr hleases] at hsh
    by_cases hn : n = i
    · subst hn
      rw [hk0] at hk1
      cases hk1
      intro hmem
      have := anyLists_false.mp hnot j
      rw [hsh, ← hid0] at this
      simp [Lease.lists, hmem] at this
    · exact h.closed n k1 hk1 hcloses (fun k' hk' => hmore k' ((hother n hn).trans hk')) j hj sh hsh
  · rw [hrev, if_pos hw, ← h.settle hu hk hw hkeys', show v.nowSeconds = now by rw [← hv]; exact h.time, ← hv]
    rfl
  · rw [hgen, openedCount_congr (u := v.emptySlot i) (t := t) (fun j k1 _ _ => ?_), ← hv]
    · exact h.generation
    · by_cases hj : j = i
      · rw [hj, hself, hk]
        simp [hw]
      · rw [hother j hj]

/-- A key ID of an ended lease is handed back. -/
theorem Progress.handBack {id : KeyId} (h : Progress s now resuming (id :: ids) t records) (hu : s.keysUnique)
    (hlist : s.anyLists id = true) : ∃ more, Progress s now resuming ids (t.handBack id) (records ++ more) := by
  have htu := h.keysUnique hu
  unfold State.handBack
  split
  · rename_i hfind
    refine ⟨[], (List.append_nil records).symm ▸ h.handedBack (fun i k hk hid => ?_)⟩
    exact absurd hid (findKey_eq_none.mp hfind i k hk)
  · rename_i i k hfind
    obtain ⟨hk, hid⟩ := (findKey_eq_some htu).mp hfind
    split
    · rename_i hcase
      exact ⟨_, h.freedAtEnd hu hlist hk hid hcase.1 hcase.2⟩
    · rename_i hcase
      refine ⟨[], (List.append_nil records).symm ▸ h.handedBack (fun j k' hk' hid' hw => ?_)⟩
      obtain rfl := htu j i k' k hk' hk (hid'.trans hid.symm)
      rw [hk] at hk'
      cases hk'
      simpa [hw] using hcase

theorem Progress.handBacks (h : Progress s now resuming ids t records) (hu : s.keysUnique)
    (hlist : ∀ id ∈ ids, s.anyLists id = true) :
    ∃ more, Progress s now resuming [] (ids.foldl State.handBack t) (records ++ more) := by
  induction ids generalizing t records with
  | nil => exact ⟨[], (List.append_nil records).symm ▸ h⟩
  | cons id ids ih =>
    obtain ⟨one, h1⟩ := h.handBack hu (hlist id List.mem_cons_self)
    obtain ⟨rest, h2⟩ := ih h1 (fun id' hid' => hlist id' (List.mem_cons_of_mem _ hid'))
    exact ⟨one ++ rest, by rwa [← List.append_assoc]⟩

/-- A serving lease at its hard end is IDLE, with its record and the hand-backs of its key list (R68, R74). -/
theorem Progress.ends (h : Progress s now resuming [] t records) (hu : s.keysUnique) {i : Nat}
    {st : Serving} {sh : Show}
    (hl : t.lease i = .serving st sh) (hend : sh.hardEnd ≤ now) :
    ∃ more, Progress s now resuming [] (t.endLease i .expired) (records ++ more) := by
  have hrecord : t.leaseEndedRecord i .expired sh = recordOfEnd (BitVec.ofNat 40 now) i .expired sh := by
    rw [State.leaseEndedRecord, State.leaseRecord, h.recordSeconds]
    rfl
  have hlists : ∀ id ∈ sh.keys, s.anyLists id = true := by
    intro id hid
    have hpath := h.leases i
    rw [hl] at hpath
    obtain ⟨st', hst'⟩ := leasePath_serving hpath
    exact anyLists_iff.mpr ⟨i, by simpa [hst', Lease.lists] using hid⟩
  have hone : Progress s now resuming sh.keys ((t.handOver (t.leaseEndedRecord i .expired sh)).setLease i .idle)
      (records ++ [recordOfEnd (BitVec.ofNat 40 now) i .expired sh]) := by
    have hpath := leasePath_mono (List.subset_append_left records [recordOfEnd (BitVec.ofNat 40 now) i .expired sh])
      (h.leases i)
    rw [hl] at hpath
    refine h.lease (i := i) (l := .idle) rfl rfl rfl (hrecord ▸ handsOver_handOver t _) (fun j => ?_)
      (by simp [Lease.lists])
      (fun id hid => .inr (by simpa [hl, Lease.lists] using hid)) (leasePath_ends hpath hend (by simp)) (by simp)
    exact lease_setLease (s := t.handOver (t.leaseEndedRecord i .expired sh)) (by rw [handOver_lease, hl]; simp) _ j
  obtain ⟨more, hmore⟩ := hone.handBacks hu hlists
  rw [endLease_expired hl]
  exact ⟨_, by rwa [List.append_assoc] at hmore⟩

/-- One lease at an announcement. -/
theorem Progress.expires (h : Progress s now resuming [] t records) (hu : s.keysUnique) (i : Nat) :
    ∃ more, Progress s now resuming [] (State.expireOne i t) (records ++ more)
      ∧ (∀ j k, (State.expireOne i t).key j = some k → t.key j = some k)
      ∧ ((∀ st sh, t.lease i = .serving st sh → now < sh.hardEnd) → more = [] ∧ State.expireOne i t = t) := by
  rcases expireOne_cases i t with ⟨st, sh, hl, hend, he⟩ | ⟨_, he⟩
  · rw [h.time] at hend
    obtain ⟨more, hmore⟩ := h.ends hu hl hend
    rw [he]
    exact ⟨more, hmore, fun j k hk => endLease_expired_key hl hk, fun hq => absurd (hq st sh hl) (not_lt.mpr hend)⟩
  · rw [he]
    exact ⟨[], (List.append_nil records).symm ▸ h, fun _ _ hk => hk, fun _ => ⟨rfl, rfl⟩⟩

end Progress

end Sys2Proof.Machine
end

section
/-! The two halves of an announcement: the key table's boundaries and the lease unit's hard ends, in either order
(R20, R24, R31, R68). -/

namespace Sys2Proof.Machine

/-! ## What an announcement makes of a lease -/

/-- A lease within an announcement stands, ends, or is OVERRUN from RUNNING. -/
def Lease.movesTo (a b : Lease) : Prop :=
  b = .idle ∨ b = a ∨ ∃ sh, a = .serving .running sh ∧ b = .serving .overrun sh

theorem movesTo_refl (a : Lease) : a.movesTo a := .inr (.inl rfl)

theorem movesTo_trans {a b c : Lease} (h : a.movesTo b) (h' : b.movesTo c) : a.movesTo c := by
  rcases h' with rfl | rfl | ⟨sh, rfl, rfl⟩
  · exact .inl rfl
  · exact h
  · rcases h with h | h | ⟨sh', _, h⟩
    · cases h
    · exact .inr (.inr ⟨sh, h.symm, rfl⟩)
    · cases h

theorem movesTo_running {a : Lease} {sh : Show} (h : a.movesTo (.serving .running sh)) : a = .serving .running sh := by
  rcases h with h | h | ⟨_, _, h⟩
  · cases h
  · exact h.symm
  · cases h

theorem movesTo_serving {a : Lease} {st : Serving} {sh : Show} (h : a.movesTo (.serving st sh)) :
    ∃ st', a = .serving st' sh := by
  rcases h with h | h | ⟨_, h, h'⟩
  · cases h
  · exact ⟨st, h.symm⟩
  · cases h'
    exact ⟨_, h⟩

theorem movesTo_held {a : Lease} {saved : SavedState} {since : Nat} {sh : Show}
    (h : a.movesTo (.serving (.held saved since) sh)) : a = .serving (.held saved since) sh := by
  rcases h with h | h | ⟨_, _, h⟩
  · cases h
  · exact h.symm
  · cases h

theorem movesTo_refused {a : Lease} {tag : BitVec 16} {refusal : LeaseRefusal} (h : a.movesTo (.refused tag refusal)) :
    a = .refused tag refusal := by
  rcases h with h | h | ⟨_, _, h⟩
  · cases h
  · exact h.symm
  · cases h

theorem noticed_moves (id : KeyId) (l : Lease) : l.movesTo (l.noticed id) := by
  unfold Lease.noticed
  split
  · split
    · exact .inr (.inr ⟨_, rfl, rfl⟩)
    · exact movesTo_refl _
  all_goals exact movesTo_refl _

theorem expired_moves (now : Nat) (l : Lease) : l.movesTo (l.expired now) := by
  unfold Lease.expired
  split
  · split
    · exact .inl rfl
    · exact movesTo_refl _
  all_goals exact movesTo_refl _

theorem moves_of_leases {s u : State} (h : u.leases = s.leases) (j : Nat) : (s.lease j).movesTo (u.lease j) := by
  rw [lease_congr h]
  exact movesTo_refl _

theorem closingNotice_moves {s u : State} (h : u.leases = s.leases) (id : KeyId) (j : Nat) :
    (s.lease j).movesTo ((u.closingNotice id).lease j) := by
  rw [(closingNotice_spec u id).1 j, lease_congr h]
  split
  · exact noticed_moves _ _
  · exact movesTo_refl _

theorem takeBoundary_moves (s : State) (b : Boundary) (j : Nat) : (s.lease j).movesTo ((s.takeBoundary b).lease j) := by
  unfold State.takeBoundary
  split
  · exact movesTo_refl _
  · split
    · refine moves_of_leases ?_ j
      unfold State.reachNotBefore
      split <;> rfl
    · unfold State.reachNotAfter
      split
      · refine closingNotice_moves ?_ _ _
        rfl
      · split
        · refine closingNotice_moves ?_ _ _
          rfl
        · exact movesTo_refl _
    · refine moves_of_leases ?_ j
      unfold State.reachFreeing
      split
      · exact emptySlot_touches (s.handOver _) _ .leases (by simp)
      · rfl

theorem keysAnnounced_moves (s : State) (j : Nat) : (s.lease j).movesTo (s.keysAnnounced.lease j) := by
  unfold State.keysAnnounced
  generalize s.dueBoundaries = l
  induction l generalizing s with
  | nil => exact movesTo_refl _
  | cons b l ih => exact movesTo_trans (takeBoundary_moves s b j) (ih _)

theorem leasesAnnounced_moves (s : State) (j : Nat) : (s.lease j).movesTo (s.leasesAnnounced.lease j) := by
  rw [leasesAnnounced_lease]
  split
  · exact expired_moves _ _
  · exact movesTo_refl _

theorem leasesAnnounced_live {s : State} {i : Nat} (hi : i < 16) {st : Serving} {sh : Show}
    (h : s.leasesAnnounced.lease i = .serving st sh) : s.nowSeconds < sh.hardEnd := by
  rw [leasesAnnounced_lease, if_pos hi] at h
  exact (expired_serving h).2

theorem keysAnnounced_nowSeconds (s : State) : s.keysAnnounced.nowSeconds = s.nowSeconds :=
  nowSeconds_congr (keysAnnounced_touches s .clock (by simp))

/-- In either order each lease stands, ends, or is OVERRUN from RUNNING, and none is left at its hard end (R68). -/
theorem mainAnnounced_leases (s : State) :
    (∀ j, (s.lease j).movesTo (s.mainAnnounced.lease j))
      ∧ ∀ i < 16, ∀ st sh, s.mainAnnounced.lease i = .serving st sh → s.nowSeconds < sh.hardEnd := by
  unfold State.mainAnnounced
  dsimp only
  have hlease : ∀ j, (s.lease j).movesTo ((s.setDraws (s.draws + 1)).lease j) := moves_of_leases rfl
  have hnow : (s.setDraws (s.draws + 1)).nowSeconds = s.nowSeconds := rfl
  rw [← hnow]
  generalize s.setDraws (s.draws + 1) = u at hlease
  split
  · refine ⟨fun j => movesTo_trans (hlease j) (movesTo_trans (keysAnnounced_moves u j) (leasesAnnounced_moves _ j)),
      fun i hi st sh h => ?_⟩
    have := leasesAnnounced_live hi h
    rwa [keysAnnounced_nowSeconds] at this
  · refine ⟨fun j => movesTo_trans (hlease j) (movesTo_trans (leasesAnnounced_moves u j) (keysAnnounced_moves _ j)),
      fun i hi st sh h => ?_⟩
    have hmove := keysAnnounced_moves u.leasesAnnounced i
    rw [h] at hmove
    obtain ⟨st', h'⟩ := movesTo_serving hmove
    exact leasesAnnounced_live hi h'

/-! ## The halves -/

section Progress

variable {s t u : State} {now : Nat} {resuming : Prop} {records : List Record}

/-- Nothing of what an announcement speaks of has changed, but for records handed over. -/
theorem Progress.congr (h : Progress s now resuming [] t records) {more : List Record}
    (hclock : u.clock = t.clock) (hkeys : u.keys = t.keys) (hleases : u.leases = t.leases)
    (hrevocations : u.revocations = t.revocations) (hreport : HandsOver t.report u.report more) :
    Progress s now resuming [] u (records ++ more) :=
  h.lease (i := 0) hclock hkeys hrevocations hreport
    (fun j => by rw [lease_congr hleases]; exact (ite_eq_right_iff.mpr (fun e => by rw [e])).symm)
    (fun _ hid => hid) (fun _ hid => .inl hid) (leasePath_mono (List.subset_append_left _ _) (h.leases 0))
    (fun sh hsh n k hk hc hnot => h.closed n k hk hc hnot 0 (by omega) sh hsh)

/-- No lease is at its hard end. -/
def State.live (s : State) (now : Nat) : Prop := ∀ i < 16, ∀ st sh, s.lease i = .serving st sh → now < sh.hardEnd

/-- No RUNNING lease lists a key that closes. -/
def State.unclosed (s t : State) (now : Nat) : Prop :=
  ∀ i < 16, ∀ sh, t.lease i = .serving .running sh → ∀ id ∈ sh.keys, s.closing now id = false

/-- The reading has passed every boundary of the key table that it has reached. -/
def State.noneDue (s : State) (now : Nat) : Prop := ∀ i k, s.key i = some k → ∀ b ∈ k.boundaries i, now < b.time

theorem Progress.leasesAnnounced (h : Progress s now resuming [] t records) (hu : s.keysUnique) :
    ∃ more, Progress s now resuming [] t.leasesAnnounced (records ++ more)
      ∧ (∀ j k, t.leasesAnnounced.key j = some k → t.key j = some k)
      ∧ (t.live now → more = [] ∧ t.leasesAnnounced = t) := by
  refine (forStreams_rec (s := t) (f := State.expireOne)
    (P := fun n v => ∃ more, Progress s now resuming [] v (records ++ more)
      ∧ (∀ j k, v.key j = some k → t.key j = some k) ∧ (t.live now → more = [] ∧ v = t)) ?_ ?_)
  · exact ⟨[], (List.append_nil records).symm ▸ h, fun _ _ hk => hk, fun _ => ⟨rfl, rfl⟩⟩
  · rintro i hi v ⟨more, hv, hkey, hstill⟩
    obtain ⟨one, hone, hkey1, hstill1⟩ := hv.expires hu i
    refine ⟨more ++ one, by rwa [← List.append_assoc], fun j k hk => hkey j k (hkey1 j k hk), fun hq => ?_⟩
    obtain ⟨rfl, rfl⟩ := hstill hq
    obtain ⟨rfl, he⟩ := hstill1 (hq i hi)
    exact ⟨rfl, he⟩

theorem Progress.keysAnnounced (h : Progress s now resuming [] t records) (hu : s.keysUnique) (hr : s.keysInRange) :
    ∃ more, Progress s now resuming [] t.keysAnnounced (records ++ more) ∧ t.keysAnnounced.noneDue now
      ∧ (s.unclosed t now → more = t.dueBoundaries.filterMap (s.boundaryRecord now)) := by
  obtain ⟨⟨done, more, hdone, hp, _, hmore⟩, hdue⟩ := keysAnnounced_rec (s := t) (now := now)
    (P := fun l v => ∃ done more, done ++ l = t.dueBoundaries ∧ Progress s now resuming [] v (records ++ more)
      ∧ (∀ j, (t.lease j).movesTo (v.lease j)) ∧ (s.unclosed t now → more = done.filterMap (s.boundaryRecord now)))
    h.time h.runs (h.keysInRange hr)
    ⟨[], [], rfl, (List.append_nil records).symm ▸ h, fun _ => movesTo_refl _, fun _ => rfl⟩ (by
      rintro b l v k rest ⟨done, more, hdone, hv, hmoves, hmore⟩ hclock hk hb htime htaken
      obtain ⟨overruns, hone, hnone⟩ := hv.boundary hu hk hb htime (takeBoundary_touches v b .clock (by simp)) htaken
      refine ⟨done ++ [b], more ++ ((s.boundaryRecord now b).toList ++ overruns), by simpa using hdone,
        by rwa [← List.append_assoc], fun j => movesTo_trans (hmoves j) (takeBoundary_moves v b j), fun hq => ?_⟩
      rw [hnone (fun j hj sh hsh => hq j hj sh (movesTo_running (hsh ▸ hmoves j))), hmore hq, List.filterMap_append]
      cases hrec : s.boundaryRecord now b <;> simp [hrec])
  rw [List.append_nil] at hdone
  exact ⟨more, hp, hdue, fun hq => hdone ▸ hmore hq⟩

theorem Progress.mainAnnounced (h : Progress s now resuming [] t records) (hu : s.keysUnique) (hr : s.keysInRange) :
    ∃ more, Progress s now resuming [] t.mainAnnounced (records ++ more) ∧ t.mainAnnounced.noneDue now
      ∧ (t.live now → s.unclosed t now → more = t.dueBoundaries.filterMap (s.boundaryRecord now)) := by
  have hd : Progress s now resuming [] (t.setDraws (t.draws + 1)) records := by
    have := h.congr (u := t.setDraws (t.draws + 1)) rfl rfl rfl rfl (handsOver_nil rfl)
    rwa [List.append_nil] at this
  unfold State.mainAnnounced
  dsimp only
  split
  · obtain ⟨more, hp, hdue, hmore⟩ := hd.keysAnnounced hu hr
    obtain ⟨more', hp', hkey, hstill⟩ := hp.leasesAnnounced hu
    refine ⟨more ++ more', by rwa [← List.append_assoc], fun i k hk => hdue i k (hkey i k hk), fun hlive hq => ?_⟩
    obtain ⟨rfl, _⟩ := hstill (fun i hi st sh hsh => by
      have hmove := keysAnnounced_moves (t.setDraws (t.draws + 1)) i
      rw [hsh] at hmove
      obtain ⟨st', h'⟩ := movesTo_serving hmove
      exact hlive i hi st' sh h')
    rw [List.append_nil]
    exact hmore hq
  · obtain ⟨more, hp, hkey, hstill⟩ := hd.leasesAnnounced hu
    obtain ⟨more', hp', hdue, hmore⟩ := hp.keysAnnounced hu hr
    refine ⟨more ++ more', by rwa [← List.append_assoc], hdue, fun hlive hq => ?_⟩
    obtain ⟨rfl, he⟩ := hstill hlive
    rw [he] at hmore
    exact hmore hq

end Progress

end Sys2Proof.Machine
end

section
/-! What an announcement leaves once the day is evaluated: the key table, the leases, the revocation list and the
records of the statements (R20 to R27, R44, R67, R68, R147, R156). -/

namespace Sys2Proof.Machine

/-! ## The evaluation of the day -/

/-- A key at the evaluation of the day: a new one reloads its DAILY allowance (R26). -/
def Key.atDay (newDay : Bool) (k : Key) : Key := if newDay then k.reloaded else k

theorem reload_eq_reloaded (k : Key) : k.reload = k.reloaded := by
  obtain ⟨_, _, _, _, _, _, _, _, _, daily, allowance, _, _⟩ := k
  cases allowance <;> cases daily <;> rfl

theorem reloadRaises_eq_raised (k : Key) : k.reloadRaises = k.raised := by
  unfold Key.reloadRaises Key.raised
  cases k.allowance <;> simp

/-- Some slot holds a key whose current a reload raises. -/
def State.raises (s : State) : Bool := s.keys.slots.any (fun o => o.any Key.raised)

theorem raises_iff {s : State} : s.raises = true ↔ ∃ i k, s.key i = some k ∧ k.raised = true := by
  rw [State.raises, slots_eq_map, List.any_map, List.any_eq_true]
  constructor
  · rintro ⟨i, _, h⟩
    obtain ⟨k, hk, hr⟩ := (Option.any_eq_true _ _).mp h
    exact ⟨i, k, hk, hr⟩
  · rintro ⟨i, k, hk, hr⟩
    exact ⟨i, List.mem_range.mpr (key_lt hk), (Option.any_eq_true _ _).mpr ⟨k, hk, hr⟩⟩

/-- The day notice reloads every key, and raises the generation where a current rises (R26). -/
theorem dailyReload_spec (s : State) :
    (∀ i, s.dailyReload.key i = (s.key i).map Key.reloaded)
      ∧ s.dailyReload.keys.slots.length = s.keys.slots.length
      ∧ s.dailyReload.keys.generation = s.keys.generation + if s.raises = true then 1 else 0 := by
  have hraised : (s.keys.slots.any (fun k => match k with
      | none => false
      | some k => k.reloadRaises)) = s.raises := by
    refine congrArg (fun f => s.keys.slots.any f) (funext fun o => ?_)
    cases o with
    | none => rfl
    | some k => exact reloadRaises_eq_raised k
  have hreload : Key.reload = Key.reloaded := funext reload_eq_reloaded
  have hslots : s.dailyReload.keys.slots = s.keys.slots.map (fun k => k.map Key.reloaded) := by
    unfold State.dailyReload
    rw [hreload]
    dsimp only
    split <;> rfl
  refine ⟨fun i => ?_, by rw [hslots, List.length_map], ?_⟩
  · rw [State.key, hslots, State.key, List.getD, List.getD, List.getElem?_map]
    cases s.keys.slots[i]? <;> rfl
  · unfold State.dailyReload
    dsimp only
    split
    · rename_i h
      rw [if_pos (hraised ▸ h)]
      rfl
    · rename_i h
      rw [if_neg (hraised ▸ h)]
      exact (BitVec.add_zero _).symm

/-- What the evaluation of the day does with the main domain up: the reload and the record of a new day (R26, R44). -/
theorem evaluateDay_spec {s : State} {cause : DayCause} (hup : s.mainUp = true) (hruns : s.clock.state ≠ .unset) :
    let newDay := decide (s.clock.day < dayNumber s.nowSeconds s.clock.dayOffset)
    let t := s.evaluateDay cause
    (∀ i, t.key i = (s.key i).map (Key.atDay newDay)) ∧ t.keys.slots.length = s.keys.slots.length
      ∧ t.keys.generation = s.keys.generation + (if newDay = true ∧ s.raises = true then 1 else 0)
      ∧ HandsOver s.report t.report
          (if newDay then [s.dayRecord cause s.nowSeconds s.clock.dayOffset] else []) := by
  by_cases hday : s.clock.day < dayNumber s.nowSeconds s.clock.dayOffset
  · have hc : s.clock.state ≠ .unset ∧ s.clock.day < s.clock.computedDay := ⟨hruns, hday⟩
    have ht : s.evaluateDay cause =
        (s.setClock (s.clock.beginDay s.clock.computedDay)).dailyReload.handOver
          (s.dayBeganRecord cause s.clock.computedDay s.clock.day) := by
      unfold State.evaluateDay
      dsimp only
      rw [if_pos hc, if_pos hup]
    obtain ⟨hkeys, hlength, hgen⟩ := dailyReload_spec (s.setClock (s.clock.beginDay s.clock.computedDay))
    have hreport := handsOver_of_touches
      (dailyReload_touches (s.setClock (s.clock.beginDay s.clock.computedDay))) (by simp)
    have hrecord : s.dayBeganRecord cause s.clock.computedDay s.clock.day =
        s.dayRecord cause s.nowSeconds s.clock.dayOffset := by
      rw [State.dayBeganRecord, recordSeconds_eq hruns]
      rfl
    rw [ht, hrecord]
    simp only [hday, decide_true, if_true, true_and]
    exact ⟨hkeys, hlength, hgen, handsOver_trans hreport (handsOver_handOver _ _)⟩
  · have ht : s.evaluateDay cause = s := by
      have hc : ¬ (s.clock.state ≠ .unset ∧ s.clock.day < s.clock.computedDay) := fun h => hday h.2
      unfold State.evaluateDay
      dsimp only
      rw [if_neg hc]
    rw [ht]
    simp only [hday, decide_false, Bool.false_eq_true, if_false, false_and]
    refine ⟨fun i => ?_, trivial, by simp, handsOver_nil rfl⟩
    cases s.key i <;> rfl

/-- A state whose key table is another's with the day evaluated, beside the same leases (R26, R44). -/
structure DayTaken (newDay : Bool) (u t : State) : Prop where
  keys : ∀ i, t.key i = (u.key i).map (Key.atDay newDay)
  slots : t.keys.slots.length = u.keys.slots.length
  generation : t.keys.generation = u.keys.generation + (if newDay = true ∧ u.raises = true then 1 else 0)
  leases : t.leases = u.leases

section Progress

variable {s t u : State} {now : Nat} {resuming : Prop} {records : List Record} {newDay : Bool}

theorem DayTaken.anyLists (h : DayTaken newDay u t) (id : KeyId) : t.anyLists id = u.anyLists id :=
  anyLists_congr (fun i => by rw [lease_congr h.leases])

theorem DayTaken.isNone (h : DayTaken newDay u t) (id : KeyId) : (t.findKey id).isNone = (u.findKey id).isNone := by
  rw [Bool.eq_iff_iff, Option.isNone_iff_eq_none, Option.isNone_iff_eq_none, findKey_eq_none, findKey_eq_none]
  refine forall_congr' (fun i => ?_)
  rw [h.keys i]
  cases u.key i with
  | none => simp
  | some k =>
    have hid : (k.atDay newDay).keyId = k.keyId := by
      unfold Key.atDay
      split <;> rfl
    simp [hid]

/-! ## Once nothing is due -/

/-- A key that an ended lease was the last to list while WITHDRAWN (R27). -/
def State.lastListed (s t : State) (k : Key) : Prop :=
  k.state = .withdrawn ∧ s.anyLists k.keyId = true ∧ t.anyLists k.keyId = false

/-- The boundaries that a key's path has taken, once none is due, are those that the reading has reached. -/
theorem Progress.taken_of_noneDue (h : Progress s now resuming [] u records) (hdue : u.noneDue now)
    {i : Nat} {k : Key} (hk : s.key i = some k) (hend : ¬ s.lastListed u k ∨ u.key i ≠ none) :
    ∃ taken rest, k.boundaries i = taken ++ rest ∧ u.key i = k.after taken ∧ (∀ b ∈ taken, b.time ≤ now)
      ∧ (∀ b ∈ rest, now < b.time) ∧ ∀ b ∈ taken, ∀ q, s.boundaryRecord now b = some q → q ∈ records := by
  rcases h.keys i k hk with ⟨hw, hl, hl', hnone, _⟩ | ⟨taken, rest, hsplit, hafter, hrest, _, htaken⟩
  · exact absurd hend (by simp [State.lastListed, hw, hl, hl', hnone])
  · refine ⟨taken, rest, hsplit, hafter, fun b hb => (htaken b hb).1, fun b hb => ?_, fun b hb => (htaken b hb).2⟩
    rw [← hrest] at hb
    cases hk' : u.key i with
    | none =>
      rw [hk'] at hb
      cases hb
    | some k' =>
      rw [hk'] at hb
      exact hdue i k' hk' b hb

/-- Once nothing is due each key is where the reading has brought it (R20 to R27). -/
theorem Progress.key_reached (h : Progress s now resuming [] u records) (hr : s.keysInRange) (hdue : u.noneDue now)
    {i : Nat} {k : Key} (hk : s.key i = some k) :
    (s.lastListed u k → u.key i = none) ∧ (¬ s.lastListed u k → u.key i = k.reached now) := by
  refine ⟨fun ⟨hw, hl, hl'⟩ => h.handed i k hk hw hl hl' List.not_mem_nil, fun hend => ?_⟩
  obtain ⟨taken, rest, hsplit, hafter, htaken, hrest, _⟩ := h.taken_of_noneDue hdue hk (.inl hend)
  exact hafter.trans (reached_of_after (hr i k hk) hsplit htaken hrest)

/-- A WAITING key leaves that state at its not-before (R21). -/
theorem Progress.waiting_left (h : Progress s now resuming [] u records) (hr : s.keysInRange) (hdue : u.noneDue now)
    {i : Nat} {k : Key} (hk : s.key i = some k) (hw : k.state = .waiting) :
    (u.key i).any (fun k => decide (k.state = .waiting)) = !decide (k.notBefore ≤ now) := by
  obtain ⟨_, _, hwindow, _⟩ := hr i k hk
  rw [(h.key_reached hr hdue hk).2 (fun hc => by rw [hc.1] at hw; cases hw)]
  unfold Key.reached
  by_cases hb : k.notBefore ≤ now
  · split
    · simp [hb]
    · rw [hw]
      dsimp only
      split <;> simp [hb]
  · rw [if_neg (by omega), hw]
    dsimp only
    rw [if_neg (by omega), if_neg hb]
    simp [hw, hb]

theorem Progress.openedCount_eq (h : Progress s now resuming [] u records) (hr : s.keysInRange)
    (hdue : u.noneDue now) :
    openedCount s u = s.heldKeys.countP (fun k => decide (k.state = .waiting ∧ k.notBefore ≤ now)) := by
  rw [heldKeys_eq, List.countP_filterMap, openedCount]
  refine List.countP_congr (fun i _ => ?_)
  cases hk : s.key i with
  | none => simp
  | some k =>
    by_cases hw : k.state = .waiting
    · rw [h.waiting_left hr hdue hk hw]
      simp [hw]
    · simp [hw]

/-- The reload raises a current where it raises one of a key that stays (R26). -/
theorem Progress.raises_eq (h : Progress s now resuming [] u records) (hday : DayTaken newDay u t) :
    u.raises = (s.keys.slots.zip t.keys.slots).any (fun p => p.2.isSome && p.1.any Key.raised) := by
  have hlen : t.keys.slots.length = s.keys.slots.length := hday.slots.trans h.slots
  have hraised : ∀ {k k' : Key}, KeyMoved k k' → k'.raised = k.raised := fun hm => by rw [hm.1]; rfl
  rw [slots_eq_map s, slots_eq_map t, hlen, List.zip_map', List.any_map, Bool.eq_iff_iff, raises_iff, List.any_eq_true]
  constructor
  · rintro ⟨i, k', hk', hr'⟩
    obtain ⟨k, hk, hm⟩ := h.key_from hk'
    refine ⟨i, List.mem_range.mpr (key_lt hk), ?_⟩
    simp [hday.keys i, hk', hk, ← hraised hm, hr']
  · rintro ⟨i, _, hi⟩
    simp only [Function.comp_apply, Bool.and_eq_true, hday.keys i, Option.isSome_map, Option.any_eq_true,
      Option.isSome_iff_exists] at hi
    obtain ⟨⟨k', hk'⟩, k, hk, hr⟩ := hi
    obtain ⟨k0, hk0, hm⟩ := h.key_from hk'
    rw [hk] at hk0
    cases hk0
    exact ⟨i, k', hk', (hraised hm).trans hr⟩

theorem Progress.keysReach (h : Progress s now resuming [] u records) (hr : s.keysInRange) (hdue : u.noneDue now)
    (hday : DayTaken newDay u t) : KeysReach s t now newDay := by
  refine ⟨fun i hi => by rw [hday.keys i, h.empty i hi]; rfl, fun i k hk => ?_, ?_⟩
  · obtain ⟨hlast, hreach⟩ := h.key_reached hr hdue hk
    rw [hday.keys i, hday.anyLists]
    split
    · rename_i hc
      rw [hlast hc]
      rfl
    · rename_i hc
      rw [hreach hc]
      rfl
  · rw [hday.generation, h.generation, h.openedCount_eq hr hdue, h.raises_eq hday]

/-- The list at an announcement: passed entries leave it once those of the freed slots are settled (R147, R156). -/
theorem Progress.listAnnounced (h : Progress s now resuming [] u records) (hday : DayTaken newDay u t) :
    removePassed now u.revocations = s.listAnnounced t now := by
  have hfreed : s.listSettled t now = s.listSettled u now :=
    listSettled_congr now (fun id => by rw [State.freed, State.freed, hday.isNone])
  rw [State.listAnnounced, hfreed, h.revocations, removePassed]
  refine congrArg (fun f => List.filter f (s.listSettled u now)) (funext fun r => ?_)
  unfold Revocation.passed
  rcases lt_or_ge now r.retainUntil with hr | hr
  · simp [hr, not_le.mpr hr]
  · cases r.condition <;> simp [hr, not_lt.mpr hr]

/-- Only its freeing boundary empties a key's slot. -/
theorem freeing_of_after {k : Key} {taken : List Boundary} (h : k.after taken = none) :
    ∃ b ∈ taken, b.kind = .freeing := by
  induction taken generalizing k with
  | nil => cases h
  | cons b rest ih =>
    cases hb : k.take b.kind with
    | none => exact ⟨b, List.mem_cons_self, take_eq_none.mp hb⟩
    | some k' =>
      have hrest : k'.after rest = none := by
        rw [Key.after, List.foldl_cons, Option.bind_some, hb] at h
        exact h
      obtain ⟨c, hc, hkind⟩ := ih hrest
      exact ⟨c, List.mem_cons_of_mem _ hc, hkind⟩

/-- The key table's records of an announcement, each among the records handed over (R21 to R23, R27). -/
def KeyRecords (s t : State) (now : Nat) (records : List Record) : Prop :=
  ∀ slot k, s.key slot = some k →
    (s.lastListed t k → lastEndRecord now slot k ∈ records ∨ (k.notAfter + 60 * k.grace ≤ now
      ∧ recordOfKey (BitVec.ofNat 40 now) .keyFreed 1 slot k (k.notAfter + 60 * k.grace) ∈ records))
    ∧ (¬ s.lastListed t k → ∀ b q, b.slot = slot → s.reaches now b → s.boundaryRecord now b = some q → q ∈ records)

theorem Progress.keyRecords (h : Progress s now resuming [] u records) (hr : s.keysInRange) (hdue : u.noneDue now) :
    KeyRecords s u now records := by
  intro i k hk
  refine ⟨fun hend => ?_, fun hend b q hb hreach hq => ?_⟩
  · rcases h.keys i k hk with ⟨_, _, _, _, hrecord⟩ | ⟨taken, rest, hsplit, hafter, _, _, htaken⟩
    · exact .inl hrecord
    · have hnone : k.after taken = none := hafter.symm.trans ((h.key_reached hr hdue hk).1 hend)
      obtain ⟨b, hb, hkind⟩ := freeing_of_after hnone
      obtain ⟨htime, hrecord⟩ := htaken b hb
      have hmem : b ∈ k.boundaries i := hsplit ▸ List.mem_append_left _ hb
      obtain rfl := boundaries_slot hmem
      obtain ⟨k', hk', _, hfree⟩ := reaches_iff.mpr ⟨k, hk, hmem, htime⟩
      rw [hk] at hk'
      cases hk'
      rw [hkind] at hfree
      exact .inr ⟨hfree ▸ htime, hrecord _ (by simp [State.boundaryRecord, hk, hkind])⟩
  · subst hb
    obtain ⟨taken, rest, hsplit, _, _, hrest, hrecords⟩ := h.taken_of_noneDue hdue hk (.inl hend)
    obtain ⟨k', hk', hmem, htime⟩ := reaches_iff.mp hreach
    rw [hk] at hk'
    cases hk'
    rw [hsplit] at hmem
    refine hrecords b ((List.mem_append.mp hmem).resolve_right (fun hb => ?_)) q hq
    have := hrest b hb
    omega

end Progress

end Sys2Proof.Machine
end

section
/-! The whole announcement: what it leaves of the key table, the leases and the revocation list, and its records
(R20 to R27, R31, R44, R67, R68, R147, R156). -/

namespace Sys2Proof.Machine

/-! ## What holds whatever the tables -/

theorem announce_revocations (s : State) (cause : DayCause) :
    (s.announce cause).revocations = removePassed s.nowSeconds
      (if s.mainUp then s.mainAnnounced else s).revocations := by
  rw [announce_eq, evaluateDay_touches _ _ .revocations (by simp), State.announced]
  refine congrArg (fun n => removePassed n _) ?_
  split
  · exact nowSeconds_congr (mainAnnounced_leaves_clock s .clock (by simp))
  · rfl

/-- An announcement leaves no LISTED entry that the reading has passed (R147). -/
theorem announce_nonePassed (s : State) (cause : DayCause) : NonePassed (s.announce cause) s.nowSeconds := by
  intro r hr hlisted
  rw [announce_revocations] at hr
  have hpassed := (List.mem_filter.mp hr).2
  simpa [Revocation.passed, hlisted] using hpassed

theorem announce_leases (s : State) (cause : DayCause) :
    (s.announce cause).leases = (if s.mainUp then s.mainAnnounced else s).leases := by
  rw [announce_eq, evaluateDay_touches _ _ .leases (by simp)]
  rfl

theorem announce_lease_up {s : State} (h : s.mainUp = true) (cause : DayCause) (i : Nat) :
    (s.announce cause).lease i = s.mainAnnounced.lease i := by
  rw [lease_congr (announce_leases s cause), if_pos h]

/-- With the main domain up an announcement leaves no lease at its hard end (R68). -/
theorem announce_live {s : State} (h : s.mainUp = true) (hlen : s.leases.length = 16) (cause : DayCause) {st : Serving}
    {sh : Show} (hmem : Lease.serving st sh ∈ (s.announce cause).leases) : s.nowSeconds < sh.hardEnd := by
  obtain ⟨i, _, hi⟩ := mem_leases hmem
  rw [announce_lease_up h] at hi
  obtain ⟨hmoves, hlive⟩ := mainAnnounced_leases s
  have hmove := hmoves i
  rw [hi] at hmove
  obtain ⟨st', hst'⟩ := movesTo_serving hmove
  exact hlive i (hlen ▸ lease_lt (by rw [hst']; simp)) st sh hi

/-! ## The outcome -/

/-- What the statements say of the key table, the leases, the list and the records of an announcement, or of a RESYNC
with its resume notice. -/
structure Outcome (s : State) (now : Nat) (resuming : Prop) (newDay : Bool) (t : State) (records : List Record) :
    Prop where
  keys : KeysReach s t now newDay
  leases : ∀ i, LeasePath s now resuming records i (s.lease i) (t.lease i)
  live : t.live now
  unclosed : s.unclosed t now
  records : KeyRecords s t now records
  revocations : t.revocations = s.listAnnounced t now

section Progress

variable {s t u v : State} {now : Nat} {resuming : Prop} {records : List Record} {newDay : Bool}

/-- Once nothing is due no RUNNING lease lists a key that closes (R67). -/
theorem Progress.unclosed (h : Progress s now resuming [] u records) (hdue : u.noneDue now) : s.unclosed u now := by
  intro i hi sh hsh id hid
  rw [← Bool.not_eq_true]
  intro hclosing
  obtain ⟨k, hk, hc⟩ := List.any_eq_true.mp hclosing
  obtain ⟨n, hn⟩ := mem_heldKeys.mp hk
  obtain ⟨hkid, hcloses⟩ := Bool.and_eq_true_iff.mp hc
  refine h.closed n k hn hcloses (fun k' hk' => ?_) i hi sh hsh (of_decide_eq_true hkid ▸ hid)
  rw [← Bool.not_eq_true, closesBy_iff n]
  rintro ⟨b, hb, _, htime⟩
  have := hdue n k' hk' b hb
  omega

theorem Progress.outcome (h : Progress s now resuming [] u records) (hr : s.keysInRange) (hdue : u.noneDue now)
    (hlive : u.live now) (hday : DayTaken newDay u t) (hrevocations : t.revocations = removePassed now u.revocations) :
    Outcome s now resuming newDay t records := by
  have hlease : ∀ i, t.lease i = u.lease i := lease_congr hday.leases
  have hlast : ∀ k, s.lastListed t k ↔ s.lastListed u k := fun k => by
    rw [State.lastListed, State.lastListed, hday.anyLists]
  refine ⟨h.keysReach hr hdue hday, fun i => hlease i ▸ h.leases i, fun i hi st sh hsh => ?_, fun i hi sh hsh => ?_,
    fun i k hk => ?_, hrevocations.trans (h.listAnnounced hday)⟩
  · exact hlive i hi st sh (hlease i ▸ hsh)
  · exact h.unclosed hdue i hi sh (hlease i ▸ hsh)
  · rw [hlast]
    exact h.keyRecords hr hdue i k hk

/-- The outcome speaks of the key table, the leases and the list alone. -/
theorem Outcome.congr (o : Outcome s now resuming newDay t records) (hkeys : v.keys = t.keys)
    (hleases : v.leases = t.leases) (hrevocations : v.revocations = t.revocations) :
    Outcome s now resuming newDay v records := by
  have hlease : ∀ i, v.lease i = t.lease i := lease_congr hleases
  have hkey : ∀ i, v.key i = t.key i := key_congr hkeys
  have hlists : ∀ id, v.anyLists id = t.anyLists id := fun id => anyLists_congr (fun i => by rw [hlease i])
  have hlast : ∀ k, s.lastListed v k ↔ s.lastListed t k := fun k => by
    rw [State.lastListed, State.lastListed, hlists]
  refine ⟨?_, fun i => hlease i ▸ o.leases i, fun i hi st sh hsh => o.live i hi st sh (hlease i ▸ hsh),
    fun i hi sh hsh => o.unclosed i hi sh (hlease i ▸ hsh), fun i k hk => ?_, ?_⟩
  · have := o.keys
    unfold KeysReach KeysMove at this ⊢
    simpa only [hkey, hlists, hkeys] using this
  · rw [hlast]
    exact o.records i k hk
  · rw [hrevocations, o.revocations, State.listAnnounced, State.listAnnounced, listSettled_eq_of_key hkey]

theorem evaluateDay_dayTaken {cause : DayCause} (hup : u.mainUp = true) (hruns : u.clock.state ≠ .unset) :
    DayTaken (decide (u.clock.day < dayNumber u.nowSeconds u.clock.dayOffset)) u (u.evaluateDay cause) := by
  obtain ⟨hkeys, hslots, hgen, _⟩ := evaluateDay_spec (cause := cause) hup hruns
  exact ⟨hkeys, hslots, hgen, evaluateDay_touches u cause .leases (by simp)⟩

/-- An announcement with the main domain up: its outcome, and its records with that of a new day last. -/
theorem Progress.announce (h : Progress s now resuming [] u records) (hlaw : KeyTableLaw s) (hup : u.mainUp = true)
    (hday : u.clock.day = s.clock.day) (hoffset : u.clock.dayOffset = s.clock.dayOffset) (cause : DayCause) :
    let newDay := decide (s.clock.day < dayNumber now s.clock.dayOffset)
    ∃ more, Outcome s now resuming newDay (u.announce cause) (records ++ more)
      ∧ HandsOver s.report (u.announce cause).report
          (records ++ more ++ if newDay then [s.dayRecord cause now s.clock.dayOffset] else [])
      ∧ (u.live now → s.unclosed u now → more = u.dueBoundaries.filterMap (s.boundaryRecord now)) := by
  have hr : s.keysInRange := fun i k hk => keyTableLaw_inRange hlaw hk
  obtain ⟨more, hmain, hdue, hquiet⟩ := h.mainAnnounced (keyTableLaw_unique hlaw) hr
  have hlive : u.mainAnnounced.live now := h.time ▸ (mainAnnounced_leases u).2
  have hclock : u.announced.clock = u.clock := announced_clock u
  have hup' : u.announced.mainUp = true := by
    rw [State.mainUp, announced_power]
    exact hup
  have hstate : u.announced.clock.state ≠ .unset := hclock ▸ h.runs
  have hnow : u.announced.nowSeconds = now := (nowSeconds_congr hclock).trans h.time
  have hannounced : u.announced = u.mainAnnounced.revocationsAnnounced := by rw [State.announced, if_pos hup]
  have htaken := evaluateDay_dayTaken (cause := cause) hup' hstate
  obtain ⟨_, _, _, hrecord⟩ := evaluateDay_spec (cause := cause) hup' hstate
  rw [hclock, hday, hoffset, hnow] at htaken hrecord
  have htaken' : DayTaken (decide (s.clock.day < dayNumber now s.clock.dayOffset)) u.mainAnnounced
      (u.announced.evaluateDay cause) := by
    rw [hannounced] at htaken ⊢
    exact ⟨htaken.keys, htaken.slots, htaken.generation, htaken.leases⟩
  have hdayRecord : u.announced.dayRecord cause now s.clock.dayOffset = s.dayRecord cause now s.clock.dayOffset := by
    rw [State.dayRecord, State.dayRecord, hclock, hday]
  rw [hdayRecord] at hrecord
  rw [announce_eq]
  refine ⟨more, hmain.outcome hr hdue hlive htaken' ?_, handsOver_trans ?_ hrecord, hquiet⟩
  · rw [← announce_eq, announce_revocations, h.time, if_pos hup]
  · rw [hannounced]
    exact hmain.report

/-- Up or down, the list after an announcement is the one of the statements. -/
theorem Progress.announce_list (h : Progress s now resuming [] u records) (hlaw : KeyTableLaw s)
    (hday : u.clock.day = s.clock.day) (hoffset : u.clock.dayOffset = s.clock.dayOffset) (cause : DayCause) :
    (u.announce cause).revocations = s.listAnnounced (u.announce cause) now := by
  by_cases hup : u.mainUp = true
  · obtain ⟨_, o, _⟩ := h.announce hlaw hup hday hoffset cause
    exact o.revocations
  · have hkeys : (u.announce cause).keys = u.keys := by
      rw [announce_eq, State.announced, if_neg hup, State.evaluateDay]
      dsimp only
      split
      · have hdown : ¬ u.revocationsAnnounced.mainUp = true := hup
        rw [if_neg hdown]
        rfl
      · rfl
    have htaken : DayTaken false u (u.announce cause) :=
      ⟨fun i => by rw [key_congr hkeys]; cases u.key i <;> rfl, by rw [hkeys], by simp [hkeys],
        by rw [announce_leases, if_neg hup]⟩
    rw [← h.listAnnounced htaken, announce_revocations, h.time, if_neg hup]

/-! ## What the statements read off -/

/-- A serving lease after an announcement, but for one that a resume notice finds HELD (R67, R68). -/
theorem Outcome.leaseReaches (o : Outcome s now resuming newDay t records)
    (hamong : ∀ q ∈ records, HandsAmong s.report t.report q) {i : Nat} (hi : i < 16) {st : Serving} {sh : Show}
    (hl : s.lease i = .serving st sh) (hst : ∀ saved since, st = .held saved since → ¬ resuming) :
    LeaseReaches s t now i st sh := by
  have hpath := o.leases i
  have hlive := o.live i hi
  have hunclosed := o.unclosed i hi
  unfold LeaseReaches
  rw [hl] at hpath
  generalize t.lease i = l at hpath hlive hunclosed
  cases hpath with
  | stays =>
    rw [if_neg (not_le.mpr (hlive st sh rfl)), if_neg]
    rintro ⟨rfl, hany⟩
    obtain ⟨id, hid, hc⟩ := List.any_eq_true.mp hany
    rw [hunclosed sh rfl id hid] at hc
    cases hc
  | ends reached record =>
    rw [if_pos reached]
    exact ⟨rfl, hamong _ record⟩
  | overruns listed closing record =>
    rw [if_neg (not_le.mpr (hlive _ sh rfl)), if_pos ⟨rfl, List.any_eq_true.mpr ⟨_, listed, closing⟩⟩]
    exact ⟨rfl, _, listed, closing, hamong _ record⟩
  | resumes notice => exact absurd notice (hst _ _ rfl)
  | resumesOverrun notice => exact absurd notice (hst _ _ rfl)

/-- The leases after an announcement (R67, R68). -/
theorem Outcome.leasesReach (o : Outcome s now False newDay t records)
    (hamong : ∀ q ∈ records, HandsAmong s.report t.report q) : LeasesReach s t now := by
  intro i hi
  have hpath := o.leases i
  cases hl : s.lease i with
  | serving st sh => exact o.leaseReaches hamong hi hl (fun _ _ _ h => h)
  | idle =>
    rw [hl] at hpath
    generalize t.lease i = l at hpath
    cases hpath
    rfl
  | refused tag refusal =>
    rw [hl] at hpath
    generalize t.lease i = l at hpath
    cases hpath with
    | stays => rfl
    | drops notice => exact notice.elim

theorem Outcome.recordsReach {cause : DayCause} (o : Outcome s now resuming newDay t records)
    (hamong : ∀ q ∈ records, HandsAmong s.report t.report q)
    (hday : newDay = true → HandsAmong s.report t.report (s.dayRecord cause now s.clock.dayOffset)) :
    RecordsReach s t now cause newDay := by
  refine ⟨fun slot k hk => ?_, hday⟩
  obtain ⟨hlast, hothers⟩ := o.records slot k hk
  split
  · rename_i hc
    rcases hlast hc with hrecord | ⟨htime, hrecord⟩
    · exact .inl (hamong _ hrecord)
    · exact .inr ⟨htime, hamong _ hrecord⟩
  · rename_i hc
    exact fun b q hb hreach hq => hamong q (hothers hc b q hb hreach hq)

/-- The boundaries due are those that the reading has reached. -/
theorem mem_dueBoundaries (hr : u.keysInRange) {b : Boundary} : b ∈ u.dueBoundaries ↔ u.reaches u.nowSeconds b := by
  have hmem : b ∈ u.dueBoundaries ↔ b ∈ dueOf u.nowSeconds b.slot (u.key b.slot) := by
    rw [← dueBoundaries_fits hr b.slot, List.mem_filter]
    simp
  rw [hmem, reaches_iff, dueOf, List.mem_filter]
  cases u.key b.slot with
  | none => simp [boundariesOf]
  | some k => simp [boundariesOf]

/-- The boundaries due stand in R24's order, each once. -/
theorem dueBoundaries_strict (hr : u.keysInRange) :
    u.dueBoundaries.Pairwise (fun a b => a.time < b.time
      ∨ (a.time = b.time ∧ (a.slot < b.slot ∨ (a.slot = b.slot ∧ a.kind.rank < b.kind.rank)))) := by
  have hnodup : u.dueBoundaries.Nodup := by
    rw [List.nodup_iff_count_le_one]
    intro b
    have hcount : u.dueBoundaries.count b = (dueOf u.nowSeconds b.slot (u.key b.slot)).count b := by
      rw [← dueBoundaries_fits hr b.slot, List.count_filter (by simp)]
    rw [hcount]
    refine List.nodup_iff_count_le_one.mp ?_ b
    cases hk : u.key b.slot with
    | none => exact List.nodup_nil
    | some k => exact ((boundaries_sorted (hr _ k hk) b.slot).imp (fun h => h.2.2)).filter _
  refine ((dueBoundaries_sorted u).and hnodup).imp (fun {a b} h => ?_)
  obtain ⟨hbefore, hne⟩ := h
  rw [before_iff] at hbefore
  have hkind : ¬ (a.time = b.time ∧ a.slot = b.slot ∧ a.kind.rank = b.kind.rank) := by
    rintro ⟨h1, h2, h3⟩
    have h3' := rank_injective h3
    obtain ⟨_, _, _⟩ := a
    obtain ⟨_, _, _⟩ := b
    exact hne (by rw [Boundary.mk.injEq]; exact ⟨h1, h2, h3'⟩)
  omega

end Progress

end Sys2Proof.Machine
end

section
/-! The announcements that reference time brings: the next whole second, and a forward step over one (R31, R36). -/

namespace Sys2Proof.Machine

theorem serving_mem {s : State} {i : Nat} {st : Serving} {sh : Show} (h : s.lease i = .serving st sh) :
    Lease.serving st sh ∈ s.leases :=
  h ▸ lease_mem (lease_lt (by rw [h]; simp))

/-- Announcing the reading of a clock: its outcome and its records, in their order where no lease has an event
(R24, R31, R44). -/
theorem announce_byTime {s t : State} {c : Clock} (hlaw : KeyTableLaw s) (hup : s.mainUp = true)
    (hruns : c.state ≠ .unset) (hday : c.day = s.clock.day) (hoffset : c.dayOffset = s.clock.dayOffset)
    (hkeys : t.keys = ((s.setClock c).announce .byTime).keys)
    (hleases : t.leases = ((s.setClock c).announce .byTime).leases)
    (hrevocations : t.revocations = ((s.setClock c).announce .byTime).revocations)
    (hreport : t.report = ((s.setClock c).announce .byTime).report) :
    let now := c.reading / 65536
    let newDay := decide (s.clock.day < dayNumber now s.clock.dayOffset)
    KeysReach s t now newDay ∧ LeasesReach s t now ∧ BoundaryRecords s t now newDay
      ∧ RecordsReach s t now .byTime newDay := by
  intro now newDay
  have hstart : Progress s now False [] (s.setClock c) [] :=
    progress_start (keyTableLaw_unique hlaw) rfl hruns (handsOver_nil rfl) rfl rfl rfl
  obtain ⟨more, ho, hover, hquiet⟩ := hstart.announce hlaw hup hday hoffset .byTime
  rw [List.nil_append] at ho hover
  rw [← hreport] at hover
  have o := ho.congr hkeys hleases hrevocations
  have hamong : ∀ q ∈ more, HandsAmong s.report t.report q :=
    fun q hq => handsAmong_of_mem hover (List.mem_append_left _ hq)
  have hr : s.keysInRange := fun i k hk => keyTableLaw_inRange hlaw hk
  refine ⟨o.keys, o.leasesReach hamong, fun hstill => ?_, o.recordsReach hamong (fun hnew => ?_)⟩
  · refine ⟨(s.setClock c).dueBoundaries, dueBoundaries_strict (u := s.setClock c) hr,
      fun b => mem_dueBoundaries (u := s.setClock c) hr, ?_⟩
    rwa [← hquiet (fun i _ st sh hsh => (hstill st sh (serving_mem hsh)).1)
      (fun i _ sh hsh => (hstill .running sh (serving_mem hsh)).2 rfl)]
  · refine handsAmong_of_mem hover (List.mem_append_right _ ?_)
    rw [show decide (s.clock.day < dayNumber now s.clock.dayOffset) = true from hnew]
    exact List.mem_singleton_self _

/-- The list after the reading of a clock is announced (R147, R156). -/
theorem announce_byTime_list {s : State} {c : Clock} (hlaw : KeyTableLaw s) (hruns : c.state ≠ .unset)
    (hday : c.day = s.clock.day) (hoffset : c.dayOffset = s.clock.dayOffset) :
    ((s.setClock c).announce .byTime).revocations =
      s.listAnnounced ((s.setClock c).announce .byTime) (c.reading / 65536) := by
  have hstart : Progress s (c.reading / 65536) False [] (s.setClock c) [] :=
    progress_start (keyTableLaw_unique hlaw) rfl hruns (handsOver_nil rfl) rfl rfl rfl
  exact hstart.announce_list hlaw hday hoffset .byTime

theorem listAnnounced_congr {s t u : State} (h : u.keys = t.keys) (now : Nat) :
    s.listAnnounced u now = s.listAnnounced t now := by
  rw [State.listAnnounced, State.listAnnounced, listSettled_eq_of_key (key_congr h)]

/-- With the main domain down an announcement reaches the clock and the list alone (R31). -/
theorem announce_down_touches {s : State} (h : ¬ s.mainUp = true) (cause : DayCause) :
    Touches [.clock, .revocations] s (s.announce cause) := by
  rw [announce_eq, State.announced, if_neg h, State.evaluateDay]
  dsimp only
  split
  · have hdown : ¬ s.revocationsAnnounced.mainUp = true := h
    rw [if_neg hdown]
    exact touches_then (touches_of (revocationsAnnounced_touches s) rfl) (setClock_touches _ _) rfl
  · exact touches_of (revocationsAnnounced_touches s) rfl

theorem mainUp_iff {s : State} : s.mainUp = true ↔ s.power.main = .up := by simp [State.mainUp]

/-- Settles O11: the announcement is what `Progress` follows, and its live leases are those of the lease unit's half. -/
theorem announcementResult : Obligations.AnnouncementResult := by
  intro s d hdue
  obtain ⟨hr, hnext⟩ := secondDue_next hdue
  obtain ⟨_, hstate, hhold, hlast, hd, _⟩ := hdue
  have hreading : (s.clock.pass d).reading = 65536 * (s.clock.reading / 65536 + 1) := by
    simp only [Clock.pass, hhold, addReading_eq, Bool.false_eq_true, if_false]
    omega
  have hseconds : (s.clock.pass d).reading / 65536 = s.clock.reading / 65536 + 1 := by omega
  have hclock : ((s.setClock (s.clock.pass d)).announce .byTime).clock = (s.clock.pass d).evaluated :=
    announce_clock _ _
  obtain ⟨heread, hestate, herem, hetimer, hehold, heoffset⟩ := evaluated_fields (s.clock.pass d)
  have htouch : Touches [.clock, .keys, .leases, .revocations, .report, .draws, .counters, .waiting] s
      ((s.setClock (s.clock.pass d)).announce .byTime).presentReport :=
    touches_then (touches_then (touches_of (setClock_touches s _) rfl) (announce_touches _ _) rfl)
      (presentReport_touches _) rfl
  refine ⟨_, by rw [exec_announcement_eq, State.standbyAct, secondPasses_next hr hnext], ?_⟩
  simp only [presentReport_clock, presentReport_revocations, presentReport_leases, hclock, heread, hestate, herem,
    hetimer, hehold, heoffset]
  refine ⟨hreading, rfl, rfl, hhold, rfl, rfl, ?_, ?_, fun hlaw => ?_, fun hup hlen st sh hmem => ?_,
    fun hdown => ?_, htouch⟩
  · rw [evaluated_dayFields (c := s.clock.pass d) hstate, hseconds]
    rfl
  · have := announce_nonePassed (s.setClock (s.clock.pass d)) .byTime
    rw [show (s.setClock (s.clock.pass d)).nowSeconds = s.clock.reading / 65536 + 1 from hseconds] at this
    intro r hr'
    rw [presentReport_revocations] at hr'
    exact this r hr'
  · rw [announce_byTime_list (c := s.clock.pass d) hlaw hstate rfl rfl, hseconds,
      listAnnounced_congr (presentReport_keys _)]
  · have hup' : (s.setClock (s.clock.pass d)).mainUp = true := mainUp_iff.mpr hup
    have hlive := announce_live hup' hlen .byTime hmem
    rwa [show (s.setClock (s.clock.pass d)).nowSeconds = s.clock.reading / 65536 + 1 from hseconds] at hlive
  · have hdown' : ¬ (s.setClock (s.clock.pass d)).mainUp = true := fun h => hdown (mainUp_iff.mp h)
    have htouch' := announce_down_touches hdown' .byTime
    rw [presentReport_down (by rw [htouch' .power (by simp)]; exact hdown)]
    exact touches_then (touches_of (setClock_touches s _) rfl) htouch' rfl

/-- The clock's fields after a forward step at the end of its period (R36). -/
def Clock.steppedForward (c : Clock) : Clock :=
  { c with
    reading := min (c.reading + (8 * 65536 - c.timer) + 8192) (2 ^ 56 - 1)
    remainder := if c.remainder - 8192 < 8192 then 0 else c.remainder - 8192
    timer := 0, hold := false }

theorem dayFields_inj {c c' : Clock} (h : c'.dayFields = c.dayFields) :
    c'.day = c.day ∧ c'.budget = c.budget ∧ c'.suspectCount = c.suspectCount := by
  simpa only [Clock.dayFields, Prod.mk.injEq] using h

theorem steppedForward_frame (c : Clock) :
    c.steppedForward.state = c.state ∧ c.steppedForward.dayOffset = c.dayOffset
      ∧ c.steppedForward.dayFields = c.dayFields := by
  simp only [Clock.steppedForward, Clock.dayFields, and_self]

theorem stepForward_pass {c : Clock} (hrem : 8192 ≤ c.remainder) (hhold : c.hold = false) :
    (c.pass (8 * 65536 - c.timer)).stepForward = c.steppedForward := by
  have hreading : addReading (addReading c.reading (8 * 65536 - c.timer)) 8192 =
      min (c.reading + (8 * 65536 - c.timer) + 8192) (2 ^ 56 - 1) := by
    simp only [addReading_eq]
    omega
  have hsmall : (c.remainder - 8192).natAbs < 8192 ↔ c.remainder - 8192 < 8192 := by omega
  unfold Clock.stepForward Clock.dropSmall Clock.steppedForward Clock.pass
  simp only [hhold, eighth_eq, Bool.false_eq_true, if_false, hreading, Nat.cast_ofNat, hsmall]
  split <;> rfl

/-- The period's end lies in the reading's second, so that only the step itself may leave it. -/
theorem pass_seconds {s : State} (hhold : s.clock.hold = false) (h : SlewDue s (8 * 65536)) :
    (s.clock.pass (8 * 65536 - s.clock.timer)).seconds = s.clock.reading / 65536 := by
  obtain ⟨_, _, _, hlast, hbefore⟩ := h
  simp only [Clock.seconds_eq, Clock.pass, hhold, addReading_eq, Bool.false_eq_true, if_false]
  rw [hhold] at hbefore
  rcases hbefore with h | h | h
  · cases h
  · omega
  · omega

/-- Settles O13: a forward step is a change of the clock, and over a whole second the announcement of its reading. -/
theorem forwardStepResult : Obligations.ForwardStepResult := by
  intro s hrem hhold hdue
  obtain ⟨hr, hnext⟩ := slewDue_next (event := .forwardStep) hdue (nextSlew_forward hrem)
  obtain ⟨hframe, hoffset, hfields⟩ := steppedForward_frame s.clock
  have hstate : s.clock.steppedForward.state ≠ .unset := by
    rw [hframe]
    exact hdue.2.1
  have hday : s.clock.steppedForward.day = s.clock.day := (dayFields_inj hfields).1
  have hpasses : s.forwardStepPasses =
      if s.clock.steppedForward.reading / 65536 = s.clock.reading / 65536 then s.setClock s.clock.steppedForward
      else (s.setClock s.clock.steppedForward).announce .byTime := by
    rw [forwardStepPasses_next hr hnext, stepForward_pass hrem hhold, pass_seconds hhold hdue, Clock.seconds_eq]
  have htouch : Touches [.clock] s (s.setClock s.clock.steppedForward) := setClock_touches s _
  rw [exec_slewForwardStep_eq, State.standbyAct, hpasses]
  split
  · rename_i hsame
    refine ⟨_, rfl, ?_⟩
    rw [presentReport_clock, State.setClock_clock]
    have hpresent := presentReport_touches (s.setClock s.clock.steppedForward)
    exact ⟨rfl, rfl, rfl, rfl, hframe, hoffset, fun _ => ⟨hfields, touches_then (touches_of htouch rfl) hpresent rfl⟩,
      fun hne => absurd hsame hne, touches_then (touches_of htouch rfl) hpresent rfl⟩
  · rename_i hover
    refine ⟨_, rfl, ?_⟩
    obtain ⟨heread, hestate, herem, hetimer, hehold, heoffset⟩ := evaluated_fields s.clock.steppedForward
    have hclock : ((s.setClock s.clock.steppedForward).announce .byTime).clock = s.clock.steppedForward.evaluated :=
      announce_clock _ _
    rw [presentReport_clock, hclock, heread, hestate, herem, hetimer, hehold, heoffset, presentReport_revocations]
    refine ⟨rfl, rfl, rfl, rfl, hframe, hoffset, fun hsame => absurd hsame hover, fun _ => ⟨?_, fun r hr' => ?_,
      fun hlaw => ?_, fun hup hlaw _ => ?_⟩, ?_⟩
    · obtain ⟨_, hbudget, hcount⟩ := dayFields_inj hfields
      rw [evaluated_dayFields hstate, hoffset, hday, hbudget, hcount]
    · rw [presentReport_revocations] at hr'
      exact announce_nonePassed (s.setClock s.clock.steppedForward) .byTime r hr'
    · rw [announce_byTime_list (c := s.clock.steppedForward) hlaw hstate hday hoffset,
        listAnnounced_congr (presentReport_keys _)]
    · exact announce_byTime (c := s.clock.steppedForward) hlaw (mainUp_iff.mpr hup) hstate hday hoffset
        (presentReport_keys _) (presentReport_leases _) (presentReport_revocations _) (presentReport_report _)
    · exact touches_then (touches_then (touches_of htouch rfl) (announce_touches _ _) rfl) (presentReport_touches _) rfl

end Sys2Proof.Machine
end

section
/-! TIME parcels that set the reading: what stands in both, whatever the tables, and the jump (R34, R35, R42, R46). -/

namespace Sys2Proof.Machine

/-! ## Records handed over, whatever the tables -/

/-- Between two states some records were handed over. -/
def HandsSome (s t : State) : Prop := ∃ l, HandsOver s.report t.report l

theorem handsSome_refl (s : State) : HandsSome s s := ⟨[], handsOver_nil rfl⟩

theorem handsSome_trans {s t u : State} (h : HandsSome s t) (h' : HandsSome t u) : HandsSome s u := by
  obtain ⟨l, hl⟩ := h
  obtain ⟨m, hm⟩ := h'
  exact ⟨l ++ m, handsOver_trans hl hm⟩

theorem handsSome_of_report {s t : State} (h : t.report = s.report) : HandsSome s t := ⟨[], handsOver_nil h⟩

theorem handsSome_of_touches {s t : State} {bs : List Block} (h : Touches bs s t) (hr : .report ∉ bs) : HandsSome s t :=
  ⟨[], handsOver_of_touches h hr⟩

theorem handsSome_handOver (s : State) (q : Record) : HandsSome s (s.handOver q) := ⟨[q], handsOver_handOver s q⟩

theorem handsSome_foldl {α : Type} {f : State → α → State} (h : ∀ s a, HandsSome s (f s a)) (l : List α) (s : State) :
    HandsSome s (l.foldl f s) := by
  induction l generalizing s with
  | nil => exact handsSome_refl s
  | cons a l ih => exact handsSome_trans (h s a) (ih _)

theorem handsSome_forStreams {f : Nat → State → State} (h : ∀ i s, HandsSome s (f i s)) (s : State) :
    HandsSome s (s.forStreams f) :=
  handsSome_foldl (f := fun s i => f i s) (fun s i => h i s) _ s

theorem emptySlot_handsSome (s : State) (i : Nat) : HandsSome s (s.emptySlot i) :=
  handsSome_of_report (emptySlot_report s i)

theorem handBack_handsSome (s : State) (id : KeyId) : HandsSome s (s.handBack id) := by
  unfold State.handBack
  split
  · exact handsSome_refl s
  · split
    · exact handsSome_trans (handsSome_handOver s _) (emptySlot_handsSome _ _)
    · exact handsSome_refl s

theorem endLease_handsSome (s : State) (i : Nat) (cause : EndCause) : HandsSome s (s.endLease i cause) := by
  unfold State.endLease
  split
  · have hended : ∀ q, HandsSome s ((s.handOver q).setLease i .idle) := fun q => ⟨[q], handsOver_handOver s q⟩
    dsimp only
    split
    · exact hended _
    · exact handsSome_trans (hended _) (handsSome_foldl handBack_handsSome _ _)
  · exact handsSome_refl s
  · exact handsSome_refl s

theorem expireOne_handsSome (i : Nat) (s : State) : HandsSome s (State.expireOne i s) := by
  rcases expireOne_cases i s with ⟨_, _, _, _, he⟩ | ⟨_, he⟩
  · rw [he]
    exact endLease_handsSome s i _
  · rw [he]
    exact handsSome_refl s

theorem closingNotice_handsSome (s : State) (id : KeyId) : HandsSome s (s.closingNotice id) := by
  obtain ⟨_, overruns, h, _⟩ := closingNotice_spec s id
  exact ⟨overruns, h⟩

theorem takeBoundary_handsSome (s : State) (b : Boundary) : HandsSome s (s.takeBoundary b) := by
  have hclosed : ∀ o q, HandsSome s ((s.setKey b.slot o).handOver q) :=
    fun o q => ⟨[q], handsOver_handOver (s.setKey b.slot o) q⟩
  unfold State.takeBoundary
  split
  · exact handsSome_refl s
  · split
    · unfold State.reachNotBefore
      split
      · exact ⟨[_], handsOver_handOver (s.setKey b.slot _).bumpGeneration _⟩
      · exact handsSome_refl s
    · unfold State.reachNotAfter
      split
      · exact handsSome_trans (hclosed _ _) (closingNotice_handsSome _ _)
      · split
        · exact handsSome_trans (handsSome_of_report rfl) (closingNotice_handsSome (s.setKey b.slot _) _)
        · exact handsSome_refl s
    · unfold State.reachFreeing
      split
      · exact handsSome_trans (handsSome_handOver s _) (emptySlot_handsSome _ _)
      · exact handsSome_refl s

theorem mainAnnounced_handsSome (s : State) : HandsSome s s.mainAnnounced := by
  have hkeys : ∀ s : State, HandsSome s s.keysAnnounced := fun s => handsSome_foldl takeBoundary_handsSome _ s
  have hleases : ∀ s : State, HandsSome s s.leasesAnnounced := handsSome_forStreams expireOne_handsSome
  have hdrawn : HandsSome s (s.setDraws (s.draws + 1)) := handsSome_of_report rfl
  unfold State.mainAnnounced
  dsimp only
  split
  · exact handsSome_trans hdrawn (handsSome_trans (hkeys _) (hleases _))
  · exact handsSome_trans hdrawn (handsSome_trans (hleases _) (hkeys _))

theorem announce_handsSome (s : State) (cause : DayCause) : HandsSome s (s.announce cause) := by
  have hmain : HandsSome s s.announced := by
    unfold State.announced
    split
    · exact handsSome_trans (mainAnnounced_handsSome s) (handsSome_of_report rfl)
    · exact handsSome_of_report rfl
  refine handsSome_trans hmain ?_
  rw [announce_eq]
  generalize s.announced = u
  unfold State.evaluateDay
  dsimp only
  split
  · split
    · refine handsSome_trans (handsSome_of_touches (bs := [.clock, .keys]) ?_ (by simp)) (handsSome_handOver _ _)
      exact touches_then (touches_of (setClock_touches u _) rfl) (dailyReload_touches _) rfl
    · exact handsSome_of_report rfl
  · exact handsSome_refl u

/-! ## The reading set -/

/-- The reading is set, with its record of the readings before and after (R35, R42). -/
theorem setReading_report {s u : State} {p : Dispatched} {c : Clock} (cause : StepCause)
    (hbefore : u.clock.reading = s.clock.reading) (hreading : c.reading = (timeBody p.bytes).reading)
    (hruns : c.state ≠ .unset) :
    HandsOver u.report (u.setReading cause c p.fields.number).report [stepRecord s p cause] := by
  have hrecord : (u.setClock c).clockStepRecord cause u.clock p.fields.number = stepRecord s p cause := by
    have hlt := timeBody_fraction_lt p.bytes
    have hseconds : (u.setClock c).nowSeconds = (timeBody p.bytes).seconds := by
      rw [State.nowSeconds, State.setClock_clock, Clock.seconds_eq, hreading, reading_eq]
      omega
    have hfraction : (u.setClock c).clock.fraction = (timeBody p.bytes).fraction := by
      rw [Clock.fraction, State.setClock_clock, hreading, reading_eq, second_eq]
      omega
    rw [State.clockStepRecord, recordSeconds_eq (s := u.setClock c) hruns, hseconds, hfraction, Clock.seconds_eq,
      Clock.fraction, hbefore]
    rfl
  rw [State.setReading, hrecord]
  exact handsOver_handOver (u.setClock c) _

/-- What the answer to a taken TIME parcel leaves: the tables, and the record of the outcome last (R46). -/
theorem answerTime_spec {s v : State} {p : Dispatched} {outcome : TimeOutcome} {seconds : BitVec 40}
    (hseconds : v.recordSeconds = seconds) :
    let t := (v.answerTaken p (timeData outcome (s.timeOffset (timeBody p.bytes)))).presentReport
    t.clock = v.clock ∧ t.keys = v.keys ∧ t.leases = v.leases ∧ t.revocations = v.revocations
      ∧ HandsOver v.report t.report [timeRecord s p (outcome.code.setWidth 32) seconds]
      ∧ t.report.statusPending = v.report.statusPending := by
  intro t
  have htouch : Touches [.counters, .waiting, .intake, .report] v t :=
    touches_then (touches_of (answerTaken_touches v p _) rfl) (presentReport_touches _) rfl
  have hreport : t.report = v.report.stage (timeRecord s p (outcome.code.setWidth 32) seconds) := by
    rw [show t.report = _ from answerTaken_report v p _, parcelTakenRecord_time hseconds]
  exact ⟨htouch .clock (by simp), htouch .keys (by simp), htouch .leases (by simp), htouch .revocations (by simp),
    hreport ▸ handsOver_stageAll v.report [_], htouch .status (by simp)⟩

/-- A TIME parcel answered after the announcement of the reading it has set (R31, R46). -/
structure Answered (s u : State) (p : Dispatched) (outcome : TimeOutcome) (t : State) : Prop where
  clock : t.clock = u.clock.evaluated
  keys : t.keys = (u.announce .bySetting).keys
  leases : t.leases = (u.announce .bySetting).leases
  revocations : t.revocations = (u.announce .bySetting).revocations
  report : HandsOver (u.announce .bySetting).report t.report
    [timeRecord s p (outcome.code.setWidth 32) (BitVec.ofNat 40 (timeBody p.bytes).seconds)]
  passed : NonePassed t (timeBody p.bytes).seconds
  owner : OwnerDone s t
  touches : Touches [.clock, .keys, .leases, .revocations, .report, .draws, .counters, .waiting, .intake] u t

theorem answered_of_announce {s u : State} {p : Dispatched} (outcome : TimeOutcome)
    (hnow : u.nowSeconds = (timeBody p.bytes).seconds) (hruns : u.clock.state ≠ .unset)
    (hintake : u.intake = s.intake) :
    Answered s u p outcome ((u.announce .bySetting).answerTaken p
      (timeData outcome (s.timeOffset (timeBody p.bytes)))).presentReport := by
  have hclock : (u.announce .bySetting).clock = u.clock.evaluated := announce_clock _ _
  have hseconds : (u.announce .bySetting).recordSeconds = BitVec.ofNat 40 (timeBody p.bytes).seconds := by
    rw [recordSeconds_eq (by rw [hclock, evaluated_state]; exact hruns), State.nowSeconds, hclock, Clock.seconds_eq,
      evaluated_reading, ← Clock.seconds_eq, ← hnow]
    rfl
  have htouch : Touches [.clock, .keys, .leases, .revocations, .report, .draws] u (u.announce .bySetting) :=
    announce_touches u _
  obtain ⟨htclock, htkeys, htleases, htrevocations, htreport, _⟩ :=
    answerTime_spec (s := s) (p := p) (outcome := outcome) hseconds
  refine ⟨htclock.trans hclock, htkeys, htleases, htrevocations, htreport, fun r hr => ?_,
    answerTaken_ownerDone ((htouch .intake (by simp)).trans hintake) p _,
    touches_then (touches_then (touches_of htouch rfl) (answerTaken_touches _ p _) rfl) (presentReport_touches _) rfl⟩
  rw [htrevocations] at hr
  exact hnow ▸ announce_nonePassed u .bySetting r hr

section Answered

variable {s u t : State} {p : Dispatched} {o : TimeOutcome} {now : Nat} {resuming : Prop} {records : List Record}

theorem Answered.reading (a : Answered s u p o t) : t.clock.reading = u.clock.reading := by
  rw [a.clock, evaluated_reading]

theorem Answered.state (a : Answered s u p o t) : t.clock.state = u.clock.state := by
  rw [a.clock, evaluated_state]

theorem Answered.dayOffset (a : Answered s u p o t) : t.clock.dayOffset = u.clock.dayOffset := by
  obtain ⟨_, _, _, _, _, hoffset⟩ := evaluated_fields u.clock
  rw [a.clock, hoffset]

theorem Answered.undisciplined (a : Answered s u p o t) (h : u.clock.undisciplined) : t.clock.undisciplined := by
  obtain ⟨_, _, hrem, htimer, hhold, _⟩ := evaluated_fields u.clock
  unfold Clock.undisciplined at h ⊢
  rw [a.clock, hrem, htimer, hhold]
  exact h

theorem Answered.list (a : Answered s u p o t) (h : Progress s now resuming [] u records) (hlaw : KeyTableLaw s)
    (hday : u.clock.day = s.clock.day) (hoffset : u.clock.dayOffset = s.clock.dayOffset) :
    t.revocations = s.listAnnounced t now := by
  rw [a.revocations, h.announce_list hlaw hday hoffset .bySetting, listAnnounced_congr a.keys]

/-- The outcome of an announcement of a reading set, seen once the parcel is answered. -/
theorem Answered.outcome (a : Answered s u p o t) (h : Progress s now resuming [] u records)
    (hlaw : KeyTableLaw s) (hup : u.mainUp = true) (hday : u.clock.day = s.clock.day)
    (hoffset : u.clock.dayOffset = s.clock.dayOffset) :
    let newDay := decide (s.clock.day < dayNumber now s.clock.dayOffset)
    ∃ more, Outcome s now resuming newDay t (records ++ more)
      ∧ (∀ q ∈ records ++ more, HandsAmong s.report t.report q)
      ∧ (newDay = true → HandsAmong s.report t.report (s.dayRecord .bySetting now s.clock.dayOffset)) := by
  intro newDay
  obtain ⟨more, ho, hover, _⟩ := h.announce hlaw hup hday hoffset .bySetting
  have hall := handsOver_trans hover a.report
  refine ⟨more, ho.congr a.keys a.leases a.revocations, fun q hq => ?_, fun hnew => ?_⟩
  · exact handsAmong_of_mem hall (List.mem_append_left _ (List.mem_append_left _ hq))
  · refine handsAmong_of_mem hall (List.mem_append_left _ (List.mem_append_right _ ?_))
    rw [show decide (s.clock.day < dayNumber now s.clock.dayOffset) = true from hnew]
    exact List.mem_singleton_self _

end Answered

end Sys2Proof.Machine
end

section
/-! The jump of a TIME parcel (R35). -/

namespace Sys2Proof.Machine

/-- The clock that a jump sets, before the day is evaluated (R35). -/
def Clock.jumped (c : Clock) (reading : Nat) : Clock := { c.clearDiscipline with reading := reading }

theorem timePasses_state {s : State} {b : TimeBody} (h : TimePasses s b) (hresync : b.resync = false) :
    s.clock.state ≠ .unset := by
  obtain ⟨_, _, _, _, _, hunset, _⟩ := h
  intro hs
  rw [hunset hs] at hresync
  cases hresync

theorem reading_seconds (bytes : List Byte) : (timeBody bytes).reading / 65536 = (timeBody bytes).seconds := by
  have := timeBody_fraction_lt bytes
  rw [reading_eq]
  omega

theorem setReading_touches (s : State) (cause : StepCause) (c : Clock) (n : BitVec 32) :
    Touches [.clock, .report] s (s.setReading cause c n) :=
  touches_then (touches_of (setClock_touches s _) rfl) (handOver_touches _ _) rfl

theorem timeTaken_resync {s : State} {p : Dispatched} (h : (timeBody p.bytes).resync = true) :
    s.timeTaken p = (s.applyTime (timeBody p.bytes) p.fields.number).answerTaken p
      (timeData .resync (s.timeOffset (timeBody p.bytes))) := by
  rw [State.timeTaken, State.timeOutcome, if_pos h]

/-- Settles O16: the jump sets the clock with its record, announces it, and answers with its own record. -/
theorem timeJumps : Obligations.TimeJumps := by
  intro s p hp
  dsimp only
  intro hpass hresync hlow hhigh
  have hstate := timePasses_state hpass hresync
  have htaken : s.timeTaken p =
      ((s.setReading .jump (s.clock.jumped (timeBody p.bytes).reading) p.fields.number).announce .bySetting).answerTaken
        p (timeData .jump (s.timeOffset (timeBody p.bytes))) := by
    have hweigh : s.clock.weigh (s.timeOffset (timeBody p.bytes)) = .jump :=
      weigh_jump (by rw [timeOffset_eq]; exact hlow) (by rw [timeOffset_eq]; exact hhigh)
    rw [timeTaken_correction rfl hresync, hweigh]
    rfl
  have hclock : (s.setReading .jump (s.clock.jumped (timeBody p.bytes).reading) p.fields.number).clock =
      s.clock.jumped (timeBody p.bytes).reading := rfl
  have hreport : HandsOver s.report
      (s.setReading .jump (s.clock.jumped (timeBody p.bytes).reading) p.fields.number).report [stepRecord s p .jump] :=
    setReading_report .jump rfl rfl hstate
  have htouch := setReading_touches s .jump (s.clock.jumped (timeBody p.bytes).reading) p.fields.number
  generalize s.setReading .jump (s.clock.jumped (timeBody p.bytes).reading) p.fields.number = u
    at htaken hclock hreport htouch
  have hruns : u.clock.state ≠ .unset := by rw [hclock]; exact hstate
  have hday : u.clock.day = s.clock.day := by rw [hclock]; rfl
  have hoffset : u.clock.dayOffset = s.clock.dayOffset := by rw [hclock]; rfl
  have hseconds : u.clock.reading / 65536 = (timeBody p.bytes).seconds := by rw [hclock]; exact reading_seconds p.bytes
  have hup : u.mainUp = true := mainUp_iff.mpr ((htouch .power (by simp)).symm ▸ dispatched_up hp)
  have hstart : KeyTableLaw s → Progress s (timeBody p.bytes).seconds False [] u [stepRecord s p .jump] := fun hlaw =>
    progress_start (keyTableLaw_unique hlaw) hseconds hruns hreport (htouch .keys (by simp)) (htouch .leases (by simp))
      (htouch .revocations (by simp))
  have answered := answered_of_announce (s := s) (p := p) .jump hseconds hruns (htouch .intake (by simp))
  rw [← htaken] at answered
  generalize ht : (s.timeTaken p).presentReport = t at answered
  have htouches : Touches [.clock, .keys, .leases, .revocations, .report, .draws, .counters, .waiting, .intake] s t :=
    touches_then (touches_of htouch rfl) answered.touches rfl
  refine ⟨t, ht ▸ exec_time_passes hp hpass, ?_, answered.undisciplined ?_, ?_, answered.dayOffset.trans hoffset, ?_,
    answered.passed, fun hlaw => answered.list (hstart hlaw) hlaw hday hoffset, ?_, fun hlaw _ => ?_, answered.owner,
    htouches⟩
  · rw [answered.reading, hclock]
    rfl
  · rw [hclock]
    exact ⟨rfl, rfl, rfl⟩
  · rw [answered.state, hclock]
    rfl
  · rw [answered.clock, evaluated_dayFields hruns, hseconds, hclock]
    rfl
  · obtain ⟨others, hothers⟩ := announce_handsSome u .bySetting
    exact ⟨others, report_eq_stageAll htouches (by simp) (by simp)
      (handsOver_trans (handsOver_trans hreport hothers) answered.report)⟩
  · obtain ⟨more, o, hamong, hnew⟩ := answered.outcome (hstart hlaw) hlaw hup hday hoffset
    exact ⟨o.keys, o.leasesReach hamong, o.recordsReach hamong hnew⟩

end Sys2Proof.Machine
end

section
/-! The resume notice of a RESYNC (R70). -/

namespace Sys2Proof.Machine

/-! ## One lease at the resume notice -/

/-- A state in which a lease is resumed to its saved state, with its record. -/
def State.resumed (s : State) (i : Nat) (saved : SavedState) (since : Nat) (sh : Show) : State :=
  (s.setLease i (.serving saved.serving sh)).handOver (s.leaseResumedRecord i sh.tag saved since)

/-- What the resume notice makes of the lease of a stream (R70). -/
inductive Resumes (s : State) (i : Nat) : State → Prop
  | ends {saved : SavedState} {since : Nat} {sh : Show} (held : s.lease i = .serving (.held saved since) sh)
      (reached : sh.hardEnd ≤ s.nowSeconds) : Resumes s i ((s.resumed i saved since sh).endLease i .expired)
  | overruns {since : Nat} {sh : Show} {id : KeyId} (held : s.lease i = .serving (.held .running since) sh)
      (live : s.nowSeconds < sh.hardEnd) (out : sh.keys.find? s.keyRunOut = some id) :
      Resumes s i (((s.resumed i .running since sh).setLease i (.serving .overrun sh)).handOver
        (s.leaseOverrunRecord i sh.tag id))
  | stands {saved : SavedState} {since : Nat} {sh : Show} (held : s.lease i = .serving (.held saved since) sh)
      (live : s.nowSeconds < sh.hardEnd) (good : saved = .running → sh.keys.find? s.keyRunOut = none) :
      Resumes s i (s.resumed i saved since sh)
  | drops {tag : BitVec 16} {refusal : LeaseRefusal} (refused : s.lease i = .refused tag refusal)
      (cause : refusal.cause = .clock) : Resumes s i (s.setLease i .idle)
  | stays (unheld : ∀ saved since sh, s.lease i ≠ .serving (.held saved since) sh)
      (other : ∀ tag refusal, s.lease i = .refused tag refusal → refusal.cause ≠ .clock) : Resumes s i s

theorem resumeOne_resumes (i : Nat) (s : State) : Resumes s i (State.resumeOne i s) := by
  unfold State.resumeOne
  cases hl : s.lease i with
  | idle => exact .stays (by simp [hl]) (by simp [hl])
  | refused tag refusal =>
    dsimp only
    split
    · rename_i hcause
      exact .drops hl hcause
    · rename_i hcause
      refine .stays (by simp [hl]) (fun tag' refusal' h => ?_)
      rw [hl] at h
      cases h
      exact hcause
  | serving st sh =>
    cases st with
    | running => exact .stays (by simp [hl]) (by simp [hl])
    | overrun => exact .stays (by simp [hl]) (by simp [hl])
    | held saved since =>
      dsimp only
      split
      · rename_i hend
        exact .ends hl hend
      · rename_i hlive
        split
        · rename_i hsaved
          subst hsaved
          split
          · rename_i id hout
            exact .overruns hl (not_le.mp hlive) hout
          · rename_i hout
            exact .stands hl (not_le.mp hlive) (fun _ => hout)
        · rename_i hsaved
          exact .stands hl (not_le.mp hlive) (fun h => absurd h hsaved)

theorem resumed_lease {s : State} {i : Nat} {saved : SavedState} {since : Nat} {sh : Show}
    (h : s.lease i = .serving (.held saved since) sh) (j : Nat) :
    (s.resumed i saved since sh).lease j = if j = i then .serving saved.serving sh else s.lease j :=
  lease_setLease (by rw [h]; simp) _ j

theorem resumedOverrun_lease {s : State} {i : Nat} {saved : SavedState} {since : Nat} {sh : Show}
    (h : s.lease i = .serving (.held saved since) sh) (q : Record) (j : Nat) :
    (((s.resumed i saved since sh).setLease i (.serving .overrun sh)).handOver q).lease j =
      if j = i then .serving .overrun sh else s.lease j := by
  rw [handOver_lease, lease_setLease (by rw [resumed_lease h, if_pos rfl]; simp), resumed_lease h]
  split <;> rfl

/-- A lease that a resume notice need not meet: neither HELD nor REFUSED for the clock. -/
def Lease.settledBy (l : Lease) : Prop :=
  (∀ saved since sh, l ≠ .serving (.held saved since) sh)
    ∧ ∀ tag refusal, l = .refused tag refusal → refusal.cause ≠ .clock

theorem settledBy_idle : Lease.idle.settledBy := ⟨by simp, by simp⟩

theorem settledBy_serving (saved : SavedState) (sh : Show) : (Lease.serving saved.serving sh).settledBy := by
  cases saved <;> exact ⟨by simp [SavedState.serving], by simp⟩

theorem settledBy_overrun (sh : Show) : (Lease.serving .overrun sh).settledBy := ⟨by simp, by simp⟩

theorem settledBy_moves {a b : Lease} (ha : a.settledBy) (h : a.movesTo b) : b.settledBy := by
  refine ⟨fun saved since sh hb => ?_, fun tag refusal hb => ?_⟩
  · subst hb
    exact ha.1 saved since sh (movesTo_held h)
  · subst hb
    exact ha.2 tag refusal (movesTo_refused h)

/-- The resume notice settles the lease of its stream and leaves the others. -/
theorem resumes_lease {s t : State} {i : Nat} (h : Resumes s i t) :
    (t.lease i).settledBy ∧ ∀ j ≠ i, t.lease j = s.lease j := by
  cases h with
  | ends held reached =>
    have hlease := fun j => endLease_expired_lease (s := s.resumed i _ _ _) (i := i)
      (by rw [resumed_lease held, if_pos rfl]) j
    refine ⟨by rw [hlease, if_pos rfl]; exact settledBy_idle, fun j hj => ?_⟩
    rw [hlease, if_neg hj, resumed_lease held, if_neg hj]
  | overruns held =>
    refine ⟨by rw [resumedOverrun_lease held, if_pos rfl]; exact settledBy_overrun _, fun j hj => ?_⟩
    rw [resumedOverrun_lease held, if_neg hj]
  | stands held =>
    refine ⟨by rw [resumed_lease held, if_pos rfl]; exact settledBy_serving _ _, fun j hj => ?_⟩
    rw [resumed_lease held, if_neg hj]
  | drops refused =>
    have hlease := lease_setLease (s := s) (i := i) (by rw [refused]; simp) .idle
    exact ⟨by rw [hlease, if_pos rfl]; exact settledBy_idle, fun j hj => by rw [hlease, if_neg hj]⟩
  | stays unheld other => exact ⟨⟨unheld, other⟩, fun _ _ => rfl⟩

/-- Once the resume notice is taken no lease is HELD or REFUSED for the clock (R70). -/
theorem resumeNotice_settled {s : State} (hlen : s.leases.length = 16) (j : Nat) :
    (s.resumeNotice.lease j).settledBy := by
  obtain ⟨hstreams, hrest⟩ := forStreams_rec (s := s) (f := State.resumeOne)
    (P := fun n v => (∀ j < n, (v.lease j).settledBy) ∧ ∀ j, n ≤ j → v.lease j = s.lease j)
    ⟨fun j hj => absurd hj (Nat.not_lt_zero j), fun _ _ => rfl⟩ (by
      rintro i - v ⟨hv, hrest⟩
      obtain ⟨hself, hother⟩ := resumes_lease (resumeOne_resumes i v)
      refine ⟨fun j hj => ?_, fun j hj => (hother j (by omega)).trans (hrest j (by omega))⟩
      rcases Nat.lt_succ_iff_lt_or_eq.mp hj with h | rfl
      · rw [hother j h.ne]
        exact hv j h
      · exact hself)
  rcases lt_or_ge j 16 with hj | hj
  · exact hstreams j hj
  · have hidle : s.lease j = .idle := List.getD_eq_default _ _ (hlen ▸ hj)
    rw [State.resumeNotice, hrest j hj, hidle]
    exact settledBy_idle

theorem resumeOne_handsSome (i : Nat) (s : State) : HandsSome s (State.resumeOne i s) := by
  have hresumed : ∀ saved since sh, HandsSome s (s.resumed i saved since sh) :=
    fun saved since sh => ⟨[_], handsOver_handOver (s.setLease i (.serving saved.serving sh)) _⟩
  have hcase := resumeOne_resumes i s
  generalize State.resumeOne i s = t at hcase
  cases hcase with
  | ends => exact handsSome_trans (hresumed _ _ _) (endLease_handsSome _ _ _)
  | overruns =>
    rename_i since sh id _ _ _
    refine handsSome_trans (hresumed .running since sh) ⟨[s.leaseOverrunRecord i sh.tag id], ?_⟩
    exact handsOver_handOver ((s.resumed i .running since sh).setLease i (.serving .overrun sh)) _
  | stands => exact hresumed _ _ _
  | drops => exact handsSome_of_report rfl
  | stays => exact handsSome_refl s

theorem resumeNotice_handsSome (s : State) : HandsSome s s.resumeNotice := handsSome_forStreams resumeOne_handsSome s

end Sys2Proof.Machine
end

section
/-! The resume notice within a RESYNC: how far it comes, and what it leaves of the keys (R27, R68, R70). -/

namespace Sys2Proof.Machine

/-! ## The keys within the resume notice -/

/-- Every key stands, but for one freed since no lease lists it any more (R27). -/
def State.keysStand (s t : State) : Prop :=
  ∀ j k, s.key j = some k → t.key j = some k ∨ (t.key j = none ∧ t.anyLists k.keyId = false)

section Progress

variable {s t u : State} {now : Nat} {records : List Record}

theorem keysStand_of_less (h : s.keysStand t) (hkeys : u.keys = t.keys)
    (hless : ∀ id, t.anyLists id = false → u.anyLists id = false) : s.keysStand u := by
  intro j k hk
  rw [key_congr hkeys]
  exact (h j k hk).imp_right (fun ⟨hnone, hlist⟩ => ⟨hnone, hless _ hlist⟩)

theorem keysStand_handBack (h : s.keysStand t) (id : KeyId) : s.keysStand (t.handBack id) := by
  have hlists : ∀ id', (t.handBack id).anyLists id' = t.anyLists id' :=
    fun id' => anyLists_congr (fun j => by rw [lease_congr (handBack_leases t id)])
  intro j k hk
  rw [hlists]
  rcases h j k hk with hstand | ⟨hnone, hlist⟩
  · unfold State.handBack
    split
    · exact .inl hstand
    · rename_i slot k' hfind
      split
      · rename_i hcase
        obtain ⟨hslot, hid, _⟩ := findKey_some (slot := slot) (k := k') hfind
        have hkey := (emptySlot_spec (s := t.handOver (t.keyFreedRecord .lastLeaseEnded slot k')) (i := slot) hslot).1 j
        rw [hkey]
        by_cases hj : j = slot
        · subst hj
          rw [hslot] at hstand
          cases hstand
          exact .inr ⟨if_pos rfl, hid ▸ hcase.2⟩
        · exact .inl ((if_neg hj).trans hstand)
      · exact .inl hstand
  · refine .inr ⟨?_, hlist⟩
    cases hk' : (t.handBack id).key j with
    | none => rfl
    | some k' =>
      rw [handBack_key hk'] at hnone
      cases hnone

theorem keysStand_handBacks (h : s.keysStand t) (ids : List KeyId) : s.keysStand (ids.foldl State.handBack t) := by
  induction ids generalizing t with
  | nil => exact h
  | cons id ids ih => exact ih (keysStand_handBack h id)

/-- Keys that stand come from the keys before. -/
theorem keysStand_from {resuming : Prop} {ids : List KeyId} (h : s.keysStand t)
    (hp : Progress s now resuming ids t records)
    {j : Nat} {k : Key} (hk : t.key j = some k) : s.key j = some k := by
  obtain ⟨k0, hk0, _⟩ := hp.key_from hk
  rcases h j k0 hk0 with hstand | ⟨hnone, _⟩
  · rw [hstand] at hk
    cases hk
    exact hk0
  · rw [hnone] at hk
    cases hk

/-- A key that some lease lists is found where it was. -/
theorem keysStand_findKey {resuming : Prop} {ids : List KeyId} (h : s.keysStand t)
    (hp : Progress s now resuming ids t records) (hu : s.keysUnique) {id : KeyId} (hlist : t.anyLists id = true) :
    t.findKey id = s.findKey id := by
  cases hf : s.findKey id with
  | none =>
    rw [findKey_eq_none] at hf ⊢
    exact fun j k hk => hf j k (keysStand_from h hp hk)
  | some p =>
    obtain ⟨hk, hid, _⟩ := findKey_some (slot := p.1) (k := p.2) hf
    rw [findKey_eq_some (hp.keysUnique hu)]
    refine ⟨(h _ _ hk).resolve_right (fun ⟨_, hnot⟩ => ?_), hid⟩
    rw [hid, hlist] at hnot
    cases hnot

/-- The keys of a listed key list that have run out are those of the statements (R70). -/
theorem keysStand_runOut {resuming : Prop} {ids : List KeyId} (h : s.keysStand t)
    (hp : Progress s now resuming ids t records) (hu : s.keysUnique) {i : Nat} {st : Serving} {sh : Show}
    (hl : t.lease i = .serving st sh) : sh.keys.find? t.keyRunOut = sh.keys.find? (s.runOut now) := by
  refine List.find?_congr (fun id hid => ?_)
  have hlist : t.anyLists id = true := anyLists_iff.mpr ⟨i, by simpa [hl, Lease.lists] using hid⟩
  rw [State.keyRunOut, keysStand_findKey h hp hu hlist, State.runOut, hp.time]
  cases s.findKey id <;> rfl

/-! ## How far the resume notice comes -/

/-- The records of a resume and of an end at the hard end are those of the statements. -/
theorem Progress.resumed_record (h : Progress s now True [] t records) (i : Nat) (sh : Show) (saved : SavedState)
    (since : Nat) : t.leaseResumedRecord i sh.tag saved since = resumedRecord now i sh saved since := by
  rw [State.leaseResumedRecord, State.leaseRecord, h.recordSeconds]
  rfl

theorem Progress.ended_record (h : Progress s now True [] t records) (i : Nat) (sh : Show) (cause : EndCause) :
    t.leaseEndedRecord i cause sh = recordOfEnd (BitVec.ofNat 40 now) i cause sh := by
  rw [State.leaseEndedRecord, State.leaseRecord, h.recordSeconds]
  rfl

theorem Progress.overrun_record (h : Progress s now True [] t records) (i : Nat) (sh : Show) (id : KeyId) :
    t.leaseOverrunRecord i sh.tag id = overrunRecord (BitVec.ofNat 40 now) i sh id := by
  rw [State.leaseOverrunRecord, State.leaseRecord, h.recordSeconds]
  rfl

/-- A lease that comes to list nothing lists nothing new. -/
theorem anyLists_less {i : Nat} {l : Lease} (hlease : ∀ j, u.lease j = if j = i then l else t.lease j)
    (hless : ∀ id, l.lists id = true → (t.lease i).lists id = true) {id : KeyId} (h : t.anyLists id = false) :
    u.anyLists id = false := by
  rw [anyLists_false] at h ⊢
  intro j
  rw [hlease j]
  split
  · rw [← Bool.not_eq_true]
    intro hl
    have := hless id hl
    rw [h i] at this
    cases this
  · exact h j

/-- A HELD lease at its hard end: resumed, ended and its keys handed back (R70, R74). -/
theorem Progress.resumes_ends (h : Progress s now True [] t records) (hu : s.keysUnique) (hstand : s.keysStand t)
    {i : Nat} {saved : SavedState} {since : Nat} {sh : Show} (held : t.lease i = .serving (.held saved since) sh)
    (reached : sh.hardEnd ≤ now) :
    ∃ more, Progress s now True [] ((t.resumed i saved since sh).endLease i .expired) (records ++ more)
      ∧ resumedRecord now i sh saved since ∈ more ∧ s.keysStand ((t.resumed i saved since sh).endLease i .expired) := by
  have hlease := resumed_lease held
  generalize hv : t.resumed i saved since sh = v
  have hvi : v.lease i = .serving saved.serving sh := by rw [← hv, hlease, if_pos rfl]
  generalize hw : (v.handOver (v.leaseEndedRecord i .expired sh)).setLease i .idle = w
  have hwlease : ∀ j, w.lease j = if j = i then .idle else t.lease j := by
    intro j
    rw [← hw, lease_setLease (by rw [handOver_lease, hvi]; simp), handOver_lease, ← hv, hlease]
    split <;> rfl
  have hwreport : HandsOver t.report w.report
      [resumedRecord now i sh saved since, recordOfEnd (BitVec.ofNat 40 now) i .expired sh] := by
    have hfirst : HandsOver t.report v.report [resumedRecord now i sh saved since] := by
      rw [← hv, ← h.resumed_record]
      exact handsOver_handOver (t.setLease i _) _
    have hsecond : HandsOver v.report w.report [recordOfEnd (BitVec.ofNat 40 now) i .expired sh] := by
      have hseconds : v.leaseEndedRecord i .expired sh = t.leaseEndedRecord i .expired sh := by
        rw [← hv]
        rfl
      rw [← hw, ← h.ended_record, hseconds]
      exact handsOver_handOver v _
    exact handsOver_trans hfirst hsecond
  have hlists : ∀ id ∈ sh.keys, s.anyLists id = true := by
    intro id hid
    have hpath := h.leases i
    rw [held] at hpath
    obtain ⟨st', hst'⟩ := leasePath_serving hpath
    exact anyLists_iff.mpr ⟨i, by simpa [hst', Lease.lists] using hid⟩
  have hpath := leasePath_mono (List.subset_append_left records
    [resumedRecord now i sh saved since, recordOfEnd (BitVec.ofNat 40 now) i .expired sh]) (h.leases i)
  rw [held] at hpath
  have hwkeys : w.keys = t.keys := by
    rw [← hw, ← hv]
    rfl
  have hone : Progress s now True sh.keys w
      (records ++ [resumedRecord now i sh saved since, recordOfEnd (BitVec.ofNat 40 now) i .expired sh]) :=
    h.lease (by rw [← hw, ← hv]; rfl) hwkeys (by rw [← hw, ← hv]; rfl) hwreport hwlease (by simp [Lease.lists])
      (fun id hid => .inr (by simpa [held, Lease.lists] using hid)) (leasePath_ends hpath reached (by simp)) (by simp)
  have hstandw : s.keysStand w :=
    keysStand_of_less hstand hwkeys (fun id hid => anyLists_less hwlease (by simp [Lease.lists]) hid)
  obtain ⟨more, hmore⟩ := hone.handBacks hu hlists
  rw [endLease_expired hvi, hw]
  exact ⟨_, by rwa [List.append_assoc] at hmore, by simp, keysStand_handBacks hstandw _⟩

/-- A key that closes by a time has run out by it (R22, R70). -/
theorem runOut_of_closes (hu : s.keysUnique) {n : Nat} {k : Key} (hk : s.key n = some k) (hc : k.closesBy now = true) :
    s.runOut now k.keyId = true := by
  simp only [Key.closesBy, decide_eq_true_eq] at hc
  simp [State.runOut, (findKey_eq_some hu).mpr ⟨hk, rfl⟩, hc.1]

/-- A HELD lease saved RUNNING whose key list has run out: resumed and OVERRUN (R70). -/
theorem Progress.resumes_overruns (h : Progress s now True [] t records) (hu : s.keysUnique) (hstand : s.keysStand t)
    {i : Nat} {since : Nat} {sh : Show} {id : KeyId} (held : t.lease i = .serving (.held .running since) sh)
    (hl : t.lease i = s.lease i) (out : sh.keys.find? t.keyRunOut = some id) :
    let u := ((t.resumed i .running since sh).setLease i (.serving .overrun sh)).handOver
      (t.leaseOverrunRecord i sh.tag id)
    ∃ more, Progress s now True [] u (records ++ more) ∧ Machine.resumedRecord now i sh .running since ∈ more
      ∧ s.keysStand u := by
  intro u
  have hlease : ∀ j, u.lease j = if j = i then .serving .overrun sh else t.lease j := resumedOverrun_lease held _
  have hless : ∀ id', (Lease.serving .overrun sh).lists id' = true ↔ (t.lease i).lists id' = true := by
    simp [held, Lease.lists]
  have hreport : HandsOver t.report u.report
      ([Machine.resumedRecord now i sh .running since] ++ [Machine.overrunRecord (BitVec.ofNat 40 now) i sh id]) := by
    rw [← h.resumed_record, ← h.overrun_record]
    exact handsOver_trans (handsOver_handOver (t.setLease i _) _)
      (handsOver_handOver ((t.resumed i .running since sh).setLease i _) _)
  have hpath : LeasePath s now True (records ++ ([Machine.resumedRecord now i sh .running since]
      ++ [Machine.overrunRecord (BitVec.ofNat 40 now) i sh id])) i (s.lease i) (.serving .overrun sh) := by
    rw [← hl, held]
    exact .resumesOverrun trivial (keysStand_runOut hstand h hu held ▸ out) (by simp)
  exact ⟨_, h.lease rfl rfl rfl hreport hlease (fun id' => (hless id').mp) (fun id' hid' => .inl ((hless id').mpr hid'))
    hpath (by simp), by simp,
    keysStand_of_less hstand rfl (fun id' hid' => anyLists_less hlease (fun id'' => (hless id'').mp) hid')⟩

/-- A HELD lease that stands as saved (R70). -/
theorem Progress.resumes_stands (h : Progress s now True [] t records) (hu : s.keysUnique) (hstand : s.keysStand t)
    {i : Nat} {saved : SavedState} {since : Nat} {sh : Show} (held : t.lease i = .serving (.held saved since) sh)
    (hl : t.lease i = s.lease i) (good : saved = .running → sh.keys.find? t.keyRunOut = none) :
    let u := t.resumed i saved since sh
    ∃ more, Progress s now True [] u (records ++ more) ∧ Machine.resumedRecord now i sh saved since ∈ more
      ∧ s.keysStand u := by
  intro u
  rw [keysStand_runOut hstand h hu held] at good
  have hlease : ∀ j, u.lease j = if j = i then .serving saved.serving sh else t.lease j := resumed_lease held
  have hless : ∀ id', (Lease.serving saved.serving sh).lists id' = true ↔ (t.lease i).lists id' = true := by
    simp [held, Lease.lists]
  have hreport : HandsOver t.report u.report [Machine.resumedRecord now i sh saved since] := by
    rw [← h.resumed_record]
    exact handsOver_handOver (t.setLease i _) _
  have hpath : LeasePath s now True (records ++ [Machine.resumedRecord now i sh saved since]) i (s.lease i)
      (.serving saved.serving sh) := by
    rw [← hl, held]
    exact .resumes trivial good
  refine ⟨_, h.lease rfl rfl rfl hreport hlease (fun id' => (hless id').mp)
    (fun id' hid' => .inl ((hless id').mpr hid'))
    hpath (fun sh' hsh n k hk hc _ hmem => ?_), by simp,
    keysStand_of_less hstand rfl (fun id' hid' => anyLists_less hlease (fun id'' => (hless id'').mp) hid')⟩
  cases saved with
  | overrun => cases hsh
  | running =>
    cases hsh
    exact absurd (runOut_of_closes hu hk hc) (List.find?_eq_none.mp (good rfl) _ hmem)

/-- One lease at the resume notice of a RESYNC (R70). -/
theorem Progress.resumes (h : Progress s now True [] t records) (hu : s.keysUnique) (hstand : s.keysStand t) {i : Nat}
    (hl : t.lease i = s.lease i) :
    ∃ more, Progress s now True [] (State.resumeOne i t) (records ++ more)
      ∧ (∀ saved since sh, s.lease i = .serving (.held saved since) sh →
          Machine.resumedRecord now i sh saved since ∈ more)
      ∧ s.keysStand (State.resumeOne i t) := by
  have honly : ∀ {saved since sh} {more : List Record}, t.lease i = .serving (.held saved since) sh →
      Machine.resumedRecord now i sh saved since ∈ more → ∀ saved' since' sh',
      s.lease i = .serving (.held saved' since') sh' → Machine.resumedRecord now i sh' saved' since' ∈ more := by
    intro saved since sh more held hmem saved' since' sh' hs
    rw [← hl, held] at hs
    cases hs
    exact hmem
  have hcase := resumeOne_resumes i t
  generalize State.resumeOne i t = u at hcase
  cases hcase with
  | ends held reached =>
    obtain ⟨more, hmore, hmem, hstill⟩ := h.resumes_ends hu hstand held (h.time ▸ reached)
    exact ⟨more, hmore, honly held hmem, hstill⟩
  | overruns held live out =>
    obtain ⟨more, hmore, hmem, hstill⟩ := h.resumes_overruns hu hstand held hl out
    exact ⟨more, hmore, honly held hmem, hstill⟩
  | stands held live good =>
    obtain ⟨more, hmore, hmem, hstill⟩ := h.resumes_stands hu hstand held hl good
    exact ⟨more, hmore, honly held hmem, hstill⟩
  | drops refused cause =>
    have hlease := lease_setLease (s := t) (i := i) (by rw [refused]; simp) .idle
    have hpath : LeasePath s now True (records ++ []) i (s.lease i) .idle := by
      rw [← hl, refused]
      exact .drops trivial cause
    refine ⟨[], h.lease rfl rfl rfl (handsOver_nil rfl) hlease (by simp [Lease.lists]) (by simp [refused, Lease.lists])
      hpath (by simp), fun saved' since' sh' hs => ?_,
      keysStand_of_less hstand rfl (fun id' hid' => anyLists_less hlease (by simp [Lease.lists]) hid')⟩
    rw [← hl, refused] at hs
    cases hs
  | stays unheld other =>
    exact ⟨[], (List.append_nil records).symm ▸ h, fun saved since sh hs =>
      absurd (hl.trans hs) (unheld saved since sh),
      hstand⟩

/-- The resume notice of a RESYNC: every HELD lease has its record (R70). -/
theorem Progress.resumeNotice (h : Progress s now True [] t records) (hu : s.keysUnique) (hkeys : t.keys = s.keys)
    (hleases : t.leases = s.leases) :
    ∃ more, Progress s now True [] t.resumeNotice (records ++ more)
      ∧ ∀ i < 16, ∀ saved since sh, s.lease i = .serving (.held saved since) sh →
          Machine.resumedRecord now i sh saved since ∈ more := by
  obtain ⟨more, hmore, hmem, _⟩ := forStreams_rec (s := t) (f := State.resumeOne)
    (P := fun n v => ∃ more, Progress s now True [] v (records ++ more)
      ∧ (∀ i < n, ∀ saved since sh, s.lease i = .serving (.held saved since) sh →
          Machine.resumedRecord now i sh saved since ∈ more)
      ∧ s.keysStand v ∧ ∀ j, n ≤ j → v.lease j = s.lease j)
    ⟨[], (List.append_nil records).symm ▸ h, fun i hi => absurd hi (Nat.not_lt_zero i),
      fun j k hk => .inl ((key_congr hkeys j).trans hk), fun j _ => lease_congr hleases j⟩ (by
      rintro i - v ⟨more, hv, hmem, hstand, hrest⟩
      obtain ⟨one, hone, hmem1, hstand1⟩ := hv.resumes hu hstand (hrest i le_rfl)
      refine ⟨more ++ one, by rwa [← List.append_assoc], fun j hj saved since sh hs => ?_, hstand1, fun j hj => ?_⟩
      · rcases Nat.lt_succ_iff_lt_or_eq.mp hj with hlt | rfl
        · exact List.mem_append_left _ (hmem j hlt saved since sh hs)
        · exact List.mem_append_right _ (hmem1 saved since sh hs)
      · rw [(resumes_lease (resumeOne_resumes i v)).2 j (by omega)]
        exact hrest j (by omega))
  exact ⟨more, hmore, hmem⟩

end Progress

end Sys2Proof.Machine
end

section
/-! The RESYNC of a TIME parcel (R42, R43, R70, R179). -/

namespace Sys2Proof.Machine

/-! ## The clock and the latch set -/

/-- The TRIP_CLEARED record of a TRIPPED latch (R179). -/
def State.clearedRecords (s : State) (p : Dispatched) : List Record :=
  match s.trip.latch with
  | .normal => []
  | .tripped cause => [s.tripClearedRecord cause p.fields.number s.clock.suspectCount]

/-- The CLOCK_STATE record of a state that was not RUNNING (R42). -/
def State.runningRecords (s : State) (p : Dispatched) : List Record :=
  if s.clock.state = .running then [] else
    [{ kind := .clockState, cause := ClockState.running.code, stream := 0xFF, subject := p.fields.number
       seconds := BitVec.ofNat 40 (timeBody p.bytes).seconds, data0 := s.clock.state.code.setWidth 32, data1 := 0
       data2 := 0, index := 0xFFFF }]

theorem resyncRecords_eq (s : State) (p : Dispatched) :
    resyncRecords s p = s.clearedRecords p ++ [stepRecord s p .resync] ++ s.runningRecords p := by
  unfold resyncRecords State.clearedRecords State.runningRecords
  cases s.trip.latch <;> rfl

theorem clearTrip_spec (s : State) (p : Dispatched) :
    (s.clearTrip p.fields.number).trip = { s.trip with latch := .normal }
      ∧ HandsOver s.report (s.clearTrip p.fields.number).report (s.clearedRecords p)
      ∧ (s.clearTrip p.fields.number).report.statusPending =
          (s.report.statusPending || decide (s.trip.latch ≠ .normal)) := by
  unfold State.clearTrip State.clearedRecords
  cases hlatch : s.trip.latch with
  | normal =>
    refine ⟨?_, handsOver_nil rfl, by simp⟩
    dsimp only
    cases htrip : s.trip with
    | mk latch tamper =>
      rw [htrip] at hlatch
      cases hlatch
      rfl
  | tripped cause => exact ⟨rfl, ⟨rfl, rfl⟩, by simp [State.statusEvent]⟩

/-- A RESYNC that passes the checks clears the latch where it is TRIPPED (R33, R43). -/
theorem applyTime_cleared {s : State} {p : Dispatched} (hpass : TimePasses s (timeBody p.bytes))
    (hresync : (timeBody p.bytes).resync = true) :
    s.applyTime (timeBody p.bytes) p.fields.number =
      (s.clearTrip p.fields.number).resync (timeBody p.bytes).reading p.fields.number := by
  rw [applyTime_resync hresync]
  congr 1
  split
  · rfl
  · rename_i hclear
    obtain ⟨hlatch, _⟩ := hpass
    have hnormal : s.trip.latch = .normal := hlatch.resolve_right (fun h => hclear h.2)
    simp [State.clearTrip, hnormal]

/-- The clock set and told, before the leases hear of it (R42). -/
def State.resyncTold (s : State) (reading : Nat) (number : BitVec 32) : State :=
  let set := s.setReading .resync (s.clock.resynced reading) number
  if s.clock.state = .running then set else (set.handOver (set.clockStateRecord s.clock.state number)).statusEvent

theorem resync_eq (s : State) (reading : Nat) (number : BitVec 32) :
    s.resync reading number = (s.resyncTold reading number).resumeNotice.announce .bySetting := rfl

/-- What the clock's own part of a RESYNC leaves of the clock and hands over (R42). -/
theorem resyncTold_spec {s u : State} {p : Dispatched} (hreading : u.clock.reading = s.clock.reading)
    (hstate : u.clock.state = s.clock.state) :
    let t := u.resyncTold (timeBody p.bytes).reading p.fields.number
    t.clock = u.clock.resynced (timeBody p.bytes).reading
      ∧ HandsOver u.report t.report ([stepRecord s p .resync] ++ s.runningRecords p)
      ∧ t.report.statusPending = (u.report.statusPending || decide (s.clock.state ≠ .running))
      ∧ Touches [.clock, .report, .status] u t := by
  have hset := setReading_report (s := s) (u := u) (p := p) (c := u.clock.resynced (timeBody p.bytes).reading) .resync
    hreading rfl (by simp [Clock.resynced])
  have htouch := setReading_touches u .resync (u.clock.resynced (timeBody p.bytes).reading) p.fields.number
  have hsetclock : (u.setReading .resync (u.clock.resynced (timeBody p.bytes).reading) p.fields.number).clock =
      u.clock.resynced (timeBody p.bytes).reading := rfl
  unfold State.resyncTold State.runningRecords
  dsimp only
  generalize u.setReading .resync (u.clock.resynced (timeBody p.bytes).reading) p.fields.number =
    v at hset htouch hsetclock ⊢
  rw [hstate]
  split
  · rename_i hrun
    refine ⟨hsetclock, by rwa [List.append_nil], ?_, touches_of htouch rfl⟩
    rw [htouch .status (by simp)]
    simp [hrun]
  · rename_i hrun
    have hseconds : v.recordSeconds = BitVec.ofNat 40 (timeBody p.bytes).seconds := by
      rw [recordSeconds_eq (by rw [hsetclock]; simp [Clock.resynced]), State.nowSeconds, hsetclock, Clock.seconds_eq,
        Clock.resynced, reading_seconds]
    have hrecord : v.clockStateRecord s.clock.state p.fields.number =
        { kind := .clockState, cause := ClockState.running.code, stream := 0xFF, subject := p.fields.number
          seconds := BitVec.ofNat 40 (timeBody p.bytes).seconds, data0 := s.clock.state.code.setWidth 32, data1 := 0
          data2 := 0, index := 0xFFFF } := by
      rw [State.clockStateRecord, hseconds, hsetclock]
      rfl
    rw [hrecord]
    refine ⟨hsetclock, handsOver_trans hset (handsOver_handOver v _), ?_, ?_⟩
    · simp [State.statusEvent, hrun]
    · exact touches_then (touches_then (touches_of htouch rfl) (handOver_touches v _) rfl) (statusEvent_touches _) rfl

/-! ## The outcome -/

/-- The leases after a RESYNC (R70, R67, R68). -/
theorem Outcome.leasesResume {s t : State} {now : Nat} {newDay : Bool} {records : List Record}
    (o : Outcome s now True newDay t records) (hamong : ∀ q ∈ records, HandsAmong s.report t.report q)
    (hsettled : ∀ i, (t.lease i).settledBy)
    (hresumed : ∀ i < 16, ∀ saved since sh, s.lease i = .serving (.held saved since) sh →
      resumedRecord now i sh saved since ∈ records) : LeasesResume s t now := by
  intro i hi
  have hpath := o.leases i
  obtain ⟨hunheld, hother⟩ := hsettled i
  have hlive := o.live i hi
  cases hl : s.lease i with
  | idle =>
    rw [hl] at hpath
    generalize t.lease i = l at hpath
    cases hpath
    rfl
  | refused tag refusal =>
    rw [hl] at hpath
    generalize t.lease i = l at hpath hother
    cases hpath with
    | stays => exact (if_neg (hother tag refusal rfl)).symm
    | drops _ cause => exact (if_pos cause).symm
  | serving st sh =>
    cases st with
    | running => exact o.leaseReaches hamong hi hl (by simp)
    | overrun => exact o.leaseReaches hamong hi hl (by simp)
    | held saved since =>
      refine ⟨hamong _ (hresumed i hi saved since sh hl), ?_⟩
      rw [hl] at hpath
      generalize t.lease i = l at hpath hunheld hlive
      cases hpath with
      | stays => exact absurd rfl (hunheld saved since sh)
      | ends reached record =>
        rw [if_pos reached]
        exact ⟨rfl, hamong _ record⟩
      | resumes _ good =>
        rw [if_neg (not_le.mpr (hlive _ sh rfl))]
        cases saved with
        | running => simp [good rfl, SavedState.serving]
        | overrun => rfl
      | resumesOverrun _ out record =>
        rw [if_neg (not_le.mpr (hlive _ sh rfl)), out]
        exact ⟨rfl, hamong _ record⟩

/-- After the resume notice an announcement leaves no lease HELD or REFUSED for the clock. -/
theorem announce_settled {s : State} (h : s.mainUp = true) (hs : ∀ i, (s.lease i).settledBy) (cause : DayCause)
    (i : Nat) :
    ((s.announce cause).lease i).settledBy := by
  rw [announce_lease_up h]
  exact settledBy_moves (hs i) ((mainAnnounced_leases s).1 i)

/-- A RESYNC once its resume notice is taken, before the reading is announced (R42, R43, R70). -/
structure ResyncResumed (s : State) (p : Dispatched) (u : State) : Prop where
  clock : u.clock = (s.clock.tripCleared s.trip.latch).resynced (timeBody p.bytes).reading
  trip : u.trip = { s.trip with latch := .normal }
  status : u.report.statusPending =
    (s.report.statusPending || decide (s.clock.state ≠ .running ∨ s.trip.latch ≠ .normal))
  report : ∃ others, HandsOver s.report u.report (resyncRecords s p ++ others)
  touches : Touches [.clock, .trip, .leases, .keys, .revocations, .report, .status] s u
  settled : ∀ i, (u.lease i).settledBy
  progress : KeyTableLaw s → ∃ more,
    Progress s (timeBody p.bytes).seconds True [] u (resyncRecords s p ++ more)
      ∧ ∀ i < 16, ∀ saved since sh, s.lease i = .serving (.held saved since) sh →
        resumedRecord (timeBody p.bytes).seconds i sh saved since ∈ more

theorem resynced_seconds {c : Clock} (p : Dispatched) :
    (c.resynced (timeBody p.bytes).reading).reading / 65536 = (timeBody p.bytes).seconds := reading_seconds p.bytes

theorem resyncResumed_of_told {s : State} (p : Dispatched) (hlen : s.leases.length = 16) :
    ResyncResumed s p
      ((s.clearTrip p.fields.number).resyncTold (timeBody p.bytes).reading p.fields.number).resumeNotice := by
  obtain ⟨hctrip, hcreport, hcstatus⟩ := clearTrip_spec s p
  have hcclock : (s.clearTrip p.fields.number).clock = s.clock.tripCleared s.trip.latch := clearTrip_clock s _
  have hctouch := clearTrip_touches s p.fields.number
  generalize s.clearTrip p.fields.number = c at hctrip hcreport hcstatus hcclock hctouch ⊢
  obtain ⟨hclock, hreport, hstatus, hdtouch⟩ := resyncTold_spec (s := s) (u := c) (p := p) (by rw [hcclock]; rfl)
    (by rw [hcclock]; rfl)
  generalize c.resyncTold (timeBody p.bytes).reading p.fields.number = told at hclock hreport hstatus hdtouch ⊢
  rw [hcclock] at hclock
  have htouch : Touches [.clock, .trip, .report, .status] s told := touches_then (touches_of hctouch rfl) hdtouch rfl
  have hover : HandsOver s.report told.report (resyncRecords s p) := by
    rw [resyncRecords_eq, List.append_assoc]
    exact handsOver_trans hcreport hreport
  have hresume : Touches [.leases, .keys, .revocations, .report] told told.resumeNotice := resumeNotice_touches told
  have hleases : told.leases = s.leases := htouch .leases (by simp)
  have hkeys : told.keys = s.keys := htouch .keys (by simp)
  obtain ⟨others, hothers⟩ := resumeNotice_handsSome told
  refine ⟨(hresume .clock (by simp)).trans hclock, ?_, ?_, ⟨others, handsOver_trans hover hothers⟩,
    touches_then (touches_of htouch rfl) hresume rfl, resumeNotice_settled (hleases.symm ▸ hlen), fun hlaw => ?_⟩
  · rw [hresume .trip (by simp), hdtouch .trip (by simp), hctrip]
  · rw [hresume .status (by simp), hstatus, hcstatus, Bool.or_assoc, Bool.or_comm (decide (s.trip.latch ≠ .normal)),
      ← Bool.decide_or]
  · have hu := keyTableLaw_unique hlaw
    have hnow : told.nowSeconds = (timeBody p.bytes).seconds := by
      rw [State.nowSeconds, hclock, Clock.seconds_eq, resynced_seconds]
    have hruns : told.clock.state ≠ .unset := by
      rw [hclock]
      simp [Clock.resynced]
    have hrevocations : told.revocations = s.revocations := htouch .revocations (by simp)
    exact (progress_start hu hnow hruns hover hkeys hleases hrevocations).resumeNotice hu hkeys hleases

/-- Settles O20: the latch is cleared, the clock set and told, the leases resumed, and the reading announced, each of
which `Progress` follows. -/
theorem timeResyncs : Obligations.TimeResyncs := by
  intro s p hp
  dsimp only
  intro hpass hresync hlen
  have htaken := timeTaken_resync (s := s) hresync
  rw [applyTime_cleared hpass hresync, resync_eq] at htaken
  have resumed := resyncResumed_of_told p hlen
  generalize ((s.clearTrip p.fields.number).resyncTold (timeBody p.bytes).reading p.fields.number).resumeNotice = u
    at htaken resumed
  have hseconds : u.clock.reading / 65536 = (timeBody p.bytes).seconds := by rw [resumed.clock, resynced_seconds]
  have hruns : u.clock.state ≠ .unset := by
    rw [resumed.clock]
    simp [Clock.resynced]
  have hday : u.clock.day = s.clock.day := by rw [resumed.clock]; rfl
  have hoffset : u.clock.dayOffset = s.clock.dayOffset := by rw [resumed.clock]; rfl
  have hup : u.mainUp = true := mainUp_iff.mpr ((resumed.touches .power (by simp)).symm ▸ dispatched_up hp)
  have answered := answered_of_announce (s := s) (p := p) .resync hseconds hruns (resumed.touches .intake (by simp))
  rw [← htaken] at answered
  generalize ht : (s.timeTaken p).presentReport = t at answered
  have htouch : Touches [.clock, .keys, .leases, .revocations, .trip, .report, .status, .draws, .counters, .waiting,
      .intake] s t := touches_then (touches_of resumed.touches rfl) answered.touches rfl
  have hsettled : ∀ i, (t.lease i).settledBy := fun i => by
    rw [lease_congr answered.leases]
    exact announce_settled hup resumed.settled .bySetting i
  refine ⟨t, ht ▸ exec_time_passes hp hpass, ?_, answered.undisciplined ?_, ?_, answered.dayOffset.trans hoffset, ?_,
    ?_, answered.passed, fun hlaw => ?_, fun saved since sh hmem => ?_, fun hlaw => ?_, ?_, answered.owner, htouch⟩
  · rw [answered.reading, resumed.clock]
    rfl
  · rw [resumed.clock]
    exact ⟨rfl, rfl, rfl⟩
  · rw [answered.state, resumed.clock]
    rfl
  · rw [answered.clock, evaluated_dayFields hruns, hseconds, resumed.clock]
    rfl
  · rw [answered.touches .trip (by simp), resumed.trip]
  · obtain ⟨more, h, _⟩ := resumed.progress hlaw
    exact answered.list h hlaw hday hoffset
  · obtain ⟨i, _, hi⟩ := mem_leases hmem
    exact (hsettled i).1 saved since sh hi
  · obtain ⟨more, h, hresumed⟩ := resumed.progress hlaw
    obtain ⟨others, o, hamong, hnew⟩ := answered.outcome h hlaw hup hday hoffset
    exact ⟨o.keys, o.leasesResume hamong hsettled (fun i hi saved since sh hs =>
      List.mem_append_left _ (List.mem_append_right _ (hresumed i hi saved since sh hs))), o.recordsReach hamong hnew⟩
  · obtain ⟨first, hfirst⟩ := resumed.report
    obtain ⟨others, hothers⟩ := announce_handsSome u .bySetting
    have hall := handsOver_trans (handsOver_trans hfirst hothers) answered.report
    rw [List.append_assoc (resyncRecords s p)] at hall
    refine ⟨first ++ others, (report_eq_of_handsOver htouch (by simp) hall).trans ?_⟩
    rw [answered.touches .status (by simp), resumed.status]
    rfl

end Sys2Proof.Machine
end

section
/-! The hold notice and the lease unit's part of a trip: every stream's lease, and the records in stream order
(R69, R73). -/

namespace Sys2Proof.Machine

theorem filterMap_range_succ {α : Type} (f : Nat → Option α) (n : Nat) :
    (List.range (n + 1)).filterMap f = (List.range n).filterMap f ++ (f n).toList := by
  rw [List.range_succ, List.filterMap_append]
  cases hf : f n <;> simp [hf]

/-- Two lists of leases of the same length are the same when every lease is. -/
theorem leases_ext {s : State} {l : List Lease} (hlen : s.leases.length = l.length)
    (h : ∀ i < l.length, s.lease i = l.getD i .idle) : s.leases = l := by
  refine List.ext_getElem hlen (fun i h1 h2 => ?_)
  have := h i h2
  rwa [State.lease, List.getD_eq_getElem _ _ h1, List.getD_eq_getElem _ _ h2] at this

/-- An act for a stream: it changes that stream's lease in one way and hands over one record at most. -/
structure StreamAct (g : Lease → Lease) (record : Option Record) (i : Nat) (v w : State) : Prop where
  clock : w.clock = v.clock
  length : w.leases.length = v.leases.length
  lease : ∀ j, w.lease j = if j = i then g (v.lease j) else v.lease j
  report : HandsOver v.report w.report record.toList

theorem streamAct_stays {g : Lease → Lease} {i : Nat} {v : State} (h : g (v.lease i) = v.lease i) :
    StreamAct g none i v v := by
  refine ⟨rfl, rfl, fun j => ?_, handsOver_nil rfl⟩
  split
  · rename_i hj
    rw [hj, h]
  · rfl

theorem streamAct_set {g : Lease → Lease} {record : Option Record} {i : Nat} {v w : State} (hne : v.lease i ≠ .idle)
    (hclock : w.clock = v.clock) (hleases : w.leases = (v.setLease i (g (v.lease i))).leases)
    (hreport : HandsOver v.report w.report record.toList) : StreamAct g record i v w := by
  refine ⟨hclock, by rw [hleases]; exact List.length_set, fun j => ?_, hreport⟩
  rw [lease_congr hleases, lease_setLease hne]
  split
  · rename_i hj
    rw [hj]
  · rfl

/-- The same act for every stream: every lease is changed, and the records stand in stream order. -/
theorem forStreams_leases {f : Nat → State → State} {g : Lease → Lease} {record : Nat → Option Record} {s : State}
    (hlen : s.leases.length = 16)
    (hact : ∀ i v, v.clock = s.clock → v.lease i = s.lease i → StreamAct g (record i) i v (f i v)) :
    (s.forStreams f).leases = s.leases.map g
      ∧ HandsOver s.report (s.forStreams f).report ((List.range 16).filterMap record) := by
  obtain ⟨_, hlen', hleases, hrep⟩ := forStreams_rec (s := s) (f := f)
    (P := fun n v => v.clock = s.clock ∧ v.leases.length = s.leases.length
      ∧ (∀ j, v.lease j = if j < n then g (s.lease j) else s.lease j)
      ∧ HandsOver s.report v.report ((List.range n).filterMap record))
    ⟨rfl, rfl, by simp, handsOver_nil rfl⟩ (by
      rintro i - v ⟨hc, hl, hv, hr⟩
      have act := hact i v hc (by rw [hv, if_neg (lt_irrefl i)])
      refine ⟨act.clock.trans hc, act.length.trans hl, fun j => ?_, ?_⟩
      · rw [act.lease, hv j]
        rcases lt_trichotomy j i with h | h | h
        · rw [if_neg h.ne, if_pos h, if_pos (by omega)]
        · rw [if_pos h, if_neg (by omega), if_pos (by omega)]
        · rw [if_neg h.ne', if_neg (by omega), if_neg (by omega)]
      · rw [filterMap_range_succ]
        exact handsOver_trans hr act.report)
  refine ⟨leases_ext (by rw [hlen', List.length_map]) (fun i hi => ?_), hrep⟩
  rw [List.length_map] at hi
  rw [hleases i, if_pos (hlen ▸ hi), State.lease, List.getD_eq_getElem _ _ hi,
    List.getD_eq_getElem _ _ (by simpa using hi), List.getElem_map]

/-! ## The hold notice -/

/-- A lease at the hold notice (R69). -/
def Lease.heldAt (now : Nat) : Lease → Lease
  | .serving .running sh => .serving (.held .running now) sh
  | .serving .overrun sh => .serving (.held .overrun now) sh
  | other => other

/-- The LEASE_HELD record of a stream (R69). -/
def State.holdRecord (s : State) (i : Nat) : Option Record :=
  match s.lease i with
  | .serving .running sh =>
    some (recordOfShow s.recordSeconds .leaseHeld 0 i sh.tag (SavedState.running.code.setWidth 32) 0 0)
  | .serving .overrun sh =>
    some (recordOfShow s.recordSeconds .leaseHeld 0 i sh.tag (SavedState.overrun.code.setWidth 32) 0 0)
  | _ => none

theorem holdRecords_eq (s : State) : s.holdRecords = (List.range 16).filterMap s.holdRecord := by
  unfold State.holdRecords State.holdRecord
  refine congrArg (fun f => (List.range 16).filterMap f) (funext fun i => ?_)
  cases s.lease i with
  | serving st sh => cases st <;> rfl
  | idle => rfl
  | refused tag refusal => rfl

theorem holdOne_act {s v : State} {i : Nat} (hclock : v.clock = s.clock) (hl : v.lease i = s.lease i) :
    StreamAct (Lease.heldAt s.nowSeconds) (s.holdRecord i) i v (State.holdOne i v) := by
  have hheld : ∀ {st sh} (saved : SavedState), v.lease i = .serving st sh →
      (v.lease i).heldAt s.nowSeconds = .serving (.held saved s.nowSeconds) sh →
      s.holdRecord i = some (v.leaseHeldRecord i sh.tag saved) →
      StreamAct (Lease.heldAt s.nowSeconds) (s.holdRecord i) i v (v.holdLease i saved sh) := by
    intro st sh saved hv hat hrecord
    rw [hrecord]
    refine streamAct_set (by rw [hv]; simp) rfl ?_ (handsOver_handOver (v.setLease i _) _)
    rw [hat, ← nowSeconds_congr hclock]
    rfl
  have hrecord : ∀ (sh : Show) (saved : SavedState), v.leaseHeldRecord i sh.tag saved =
      recordOfShow s.recordSeconds .leaseHeld 0 i sh.tag (saved.code.setWidth 32) 0 0 := by
    intro sh saved
    rw [← recordSeconds_congr hclock]
    rfl
  unfold State.holdOne
  cases hv : v.lease i with
  | idle =>
    have hnone : s.holdRecord i = none := by rw [State.holdRecord, ← hl, hv]
    exact hnone ▸ streamAct_stays (by rw [hv]; rfl)
  | refused tag refusal =>
    have hnone : s.holdRecord i = none := by rw [State.holdRecord, ← hl, hv]
    exact hnone ▸ streamAct_stays (by rw [hv]; rfl)
  | serving st sh =>
    cases st with
    | running => exact hheld .running hv (by rw [hv]; rfl) (by rw [State.holdRecord, ← hl, hv, hrecord])
    | overrun => exact hheld .overrun hv (by rw [hv]; rfl) (by rw [State.holdRecord, ← hl, hv, hrecord])
    | held saved since =>
      have hnone : s.holdRecord i = none := by rw [State.holdRecord, ← hl, hv]
      exact hnone ▸ streamAct_stays (by rw [hv]; rfl)

/-- The hold notice (R69). -/
theorem holdNotice_spec {s : State} (hlen : s.leases.length = 16) :
    s.holdNotice.leases = s.leases.map (Lease.heldAt s.nowSeconds)
      ∧ HandsOver s.report s.holdNotice.report s.holdRecords := by
  rw [holdRecords_eq]
  exact forStreams_leases hlen (fun i v => holdOne_act)

/-! ## The lease unit's part of a trip -/

/-- The LEASE_ENDED record of a stream at a trip (R73). -/
def State.tripEnd (s : State) (i : Nat) : Option Record :=
  match s.lease i with
  | .serving _ sh => some (recordOfEnd s.recordSeconds i .tripped sh)
  | .idle => none
  | .refused _ _ => none

theorem tripRecords_eq (s : State) (tripped : Record) :
    s.tripRecords tripped = tripped :: (List.range 16).filterMap s.tripEnd
      ++ s.tripRefused.map (fun p => refusedRecord s p.2 p.1 .tripped 0xFFFF) := by
  unfold State.tripRecords State.tripEnd
  rfl

theorem tripOne_cases (i : Nat) (s : State) :
    (∃ st sh, s.lease i = .serving st sh
        ∧ State.tripOne i s = (s.handOver (s.leaseEndedRecord i .tripped sh)).setLease i .idle)
      ∨ (∃ tag refusal, s.lease i = .refused tag refusal ∧ State.tripOne i s = s.setLease i .idle)
      ∨ (s.lease i = .idle ∧ State.tripOne i s = s) := by
  unfold State.tripOne State.endLease
  cases hl : s.lease i with
  | idle => exact .inr (.inr ⟨rfl, by simp [State.dropRefused, hl]⟩)
  | refused tag refusal => exact .inr (.inl ⟨tag, refusal, rfl, by simp [State.dropRefused, hl]⟩)
  | serving st sh =>
    refine .inl ⟨st, sh, rfl, ?_⟩
    have hidle : ((s.handOver (s.leaseEndedRecord i .tripped sh)).setLease i .idle).lease i = .idle := by
      rw [lease_setLease (by rw [handOver_lease, hl]; simp), if_pos rfl]
    dsimp only
    rw [if_pos rfl, State.dropRefused, hidle]

/-- A trip hands back no key (R74). -/
theorem tripOne_leaves (i : Nat) (s : State) : Touches [.leases, .report] s (State.tripOne i s) := by
  rcases tripOne_cases i s with ⟨_, _, _, he⟩ | ⟨_, _, _, he⟩ | ⟨_, he⟩
  · rw [he]
    exact touches_then (touches_of (handOver_touches s _) rfl) (setLease_touches _ _ _) rfl
  · rw [he]
    exact touches_of (setLease_touches s _ _) rfl
  · rw [he]
    exact touches_refl _ s

theorem tripLeases_leaves (s : State) : Touches [.leases, .report] s s.tripLeases := touches_forStreams tripOne_leaves s

theorem tripOne_act {s v : State} {i : Nat} (hclock : v.clock = s.clock) (hl : v.lease i = s.lease i) :
    StreamAct (fun _ => .idle) (s.tripEnd i) i v (State.tripOne i v) := by
  rcases tripOne_cases i v with ⟨st, sh, hv, he⟩ | ⟨tag, refusal, hv, he⟩ | ⟨hv, he⟩
  · have hrecord : s.tripEnd i = some (v.leaseEndedRecord i .tripped sh) := by
      rw [State.tripEnd, ← hl, hv, ← recordSeconds_congr hclock]
      rfl
    rw [he, hrecord]
    exact streamAct_set (by rw [hv]; simp) rfl rfl (handsOver_handOver v _)
  · have hnone : s.tripEnd i = none := by rw [State.tripEnd, ← hl, hv]
    rw [he, hnone]
    exact streamAct_set (by rw [hv]; simp) rfl rfl (handsOver_nil rfl)
  · have hnone : s.tripEnd i = none := by rw [State.tripEnd, ← hl, hv]
    rw [he, hnone]
    exact streamAct_stays hv.symm

/-- Every lease is IDLE after a trip (R73). -/
theorem tripLeases_spec {s : State} (hlen : s.leases.length = 16) :
    (∀ l ∈ s.tripLeases.leases, l = .idle)
      ∧ HandsOver s.report s.tripLeases.report ((List.range 16).filterMap s.tripEnd) := by
  obtain ⟨hleases, hreport⟩ := forStreams_leases (f := State.tripOne) (g := fun _ => .idle) (record := s.tripEnd) hlen
    (fun i v => tripOne_act)
  refine ⟨fun l hl => ?_, hreport⟩
  rw [State.tripLeases, hleases, List.mem_map] at hl
  obtain ⟨_, _, rfl⟩ := hl
  rfl

/-- Where every lease is IDLE neither the hold notice nor a trip reaches one. -/
theorem idle_notices {s : State} (h : ∀ l ∈ s.leases, l = .idle) : s.holdNotice = s ∧ s.tripLeases = s := by
  have hidle : ∀ i, s.lease i = .idle := by
    intro i
    rcases lt_or_ge i s.leases.length with hi | hi
    · exact h _ (lease_mem hi)
    · exact List.getD_eq_default _ _ hi
  refine ⟨forStreams_rec (P := fun _ v => v = s) rfl ?_, forStreams_rec (P := fun _ v => v = s) rfl ?_⟩
  · rintro i - v rfl
    simp [State.holdOne, hidle]
  · rintro i - v rfl
    rcases tripOne_cases i v with ⟨_, _, hl, _⟩ | ⟨_, _, hl, _⟩ | ⟨_, he⟩
    · rw [hidle i] at hl
      cases hl
    · rw [hidle i] at hl
      cases hl
    · exact he

end Sys2Proof.Machine
end

section
/-! The cipher engine's, the key table's and the intake unit's parts of a trip (R28, R109, R142, R156). -/

namespace Sys2Proof.Machine

/-! ## The key table erased -/

/-- A slot that becomes EMPTY, whatever it held. -/
theorem emptySlot_key (s : State) (i j : Nat) : (s.emptySlot i).key j = if j = i then none else s.key j := by
  cases hk : s.key i with
  | some k => exact (emptySlot_spec hk).1 j
  | none =>
    have he : s.emptySlot i = s := by simp [State.emptySlot, hk]
    rw [he]
    split
    · rename_i hj
      rw [hj, hk]
    · rfl

/-- The first slots erased (R28, R156). -/
theorem eraseSlots_spec (s : State) (n : Nat) :
    let t := (List.range n).foldl (fun s slot => s.emptySlot slot) s
    t.nowSeconds = s.nowSeconds ∧ (∀ j, t.key j = if j < n then none else s.key j)
      ∧ t.keys.slots.length = s.keys.slots.length ∧ t.keys.generation = s.keys.generation
      ∧ (s.keysUnique → t.revocations = s.listSettled t s.nowSeconds) := by
  induction n with
  | zero =>
    simp only [List.range_zero, List.foldl_nil]
    refine ⟨trivial, by simp, trivial, trivial, fun hu => (listSettled_self s.nowSeconds (fun id => ?_)).symm⟩
    rw [← Bool.not_eq_true, Machine.freed_iff hu (fun j k hk => ⟨k, hk, rfl⟩)]
    rintro ⟨i, k, hk, _, _, hnone⟩
    rw [hk] at hnone
    cases hnone
  | succ n ih =>
    simp only [List.range_succ, List.foldl_append, List.foldl_cons, List.foldl_nil] at ih ⊢
    generalize (List.range n).foldl (fun s slot => s.emptySlot slot) s = v at ih
    obtain ⟨hnow, hkeys, hlen, hgen, hrev⟩ := ih
    have hkeys' : ∀ j, (v.emptySlot n).key j = if j < n + 1 then none else s.key j := by
      intro j
      rw [emptySlot_key, hkeys j]
      rcases lt_trichotomy j n with h | h | h
      · rw [if_neg h.ne, if_pos h, if_pos (by omega)]
      · rw [if_pos h, if_pos (by omega)]
      · rw [if_neg h.ne', if_neg (by omega), if_neg (by omega)]
    have hstand : ∀ {w : State}, (∀ j k', w.key j = some k' → s.key j = some k') → ∀ j k', w.key j = some k' →
        ∃ k, s.key j = some k ∧ k'.keyId = k.keyId := fun h j k' hk' => ⟨k', h j k' hk', rfl⟩
    have hv : ∀ j k', v.key j = some k' → s.key j = some k' := by
      intro j k' hk'
      rw [hkeys j] at hk'
      split at hk'
      · cases hk'
      · exact hk'
    have hv' : ∀ j k', (v.emptySlot n).key j = some k' → s.key j = some k' := by
      intro j k' hk'
      rw [hkeys' j] at hk'
      split at hk'
      · cases hk'
      · exact hk'
    refine ⟨(nowSeconds_congr (emptySlot_touches v n .clock (by simp))).trans hnow, hkeys', ?_⟩
    cases hk : v.key n with
    | none =>
      have he : v.emptySlot n = v := by simp [State.emptySlot, hk]
      rw [he]
      exact ⟨hlen, hgen, hrev⟩
    | some k =>
      obtain ⟨hkey, hlen', hgen', hrev'⟩ := emptySlot_spec hk
      refine ⟨hlen'.trans hlen, hgen'.trans hgen, fun hu => ?_⟩
      rw [hrev', hnow]
      split
      · rename_i hw
        exact listSettled_emptied hu (fun j k' hk' => ⟨k', hv j k' hk', rfl, id⟩) (hrev hu) hk hw hkey
      · rename_i hw
        rw [hrev hu]
        refine (listSettled_congr s.nowSeconds (fun id => ?_)).symm
        rw [Bool.eq_iff_iff, Machine.freed_iff hu (hstand hv'), Machine.freed_iff hu (hstand hv)]
        refine exists_congr (fun i => exists_congr (fun k1 => and_congr_right fun hk1 => and_congr_right fun _ =>
          and_congr_right fun hw1 => ?_))
        rw [hkey i]
        by_cases hi : i = n
        · subst hi
          rw [hv i k hk] at hk1
          cases hk1
          exact absurd hw1 hw
        · rw [if_neg hi]

/-- A trip erases every key and settles every PENDING entry (R28, R156). -/
theorem eraseKeys_spec {s : State} (hlaw : KeyTableLaw s) :
    (∀ k ∈ s.eraseKeys.keys.slots, k = none) ∧ s.eraseKeys.keys.generation = s.keys.generation
      ∧ (RevocationLaw s → s.eraseKeys.revocations = s.revocations.filterMap (settledEntry s.nowSeconds)) := by
  have hspec := eraseSlots_spec s Config.keySlots
  rw [← State.eraseKeys] at hspec
  obtain ⟨_, hkeys, hlen, hgen, hrev⟩ := hspec
  have hslots : Config.keySlots = 128 := rfl
  rw [hslots] at hkeys
  have hlen' : s.eraseKeys.keys.slots.length = 128 := hlen.trans hlaw.1
  have hnone : ∀ j, s.eraseKeys.key j = none := by
    intro j
    by_cases hj : j < 128
    · exact (hkeys j).trans (if_pos hj)
    · exact List.getD_eq_default _ _ (by omega)
  refine ⟨fun k hk => ?_, hgen, fun hrl => ?_⟩
  · obtain ⟨i, hi, rfl⟩ := List.getElem_of_mem hk
    rw [← key_eq_getElem hi, hnone]
  · have hu := keyTableLaw_unique hlaw
    obtain ⟨_, _, _, hpending, _⟩ := hrl
    refine (hrev hu).trans ?_
    rw [State.listSettled]
    refine List.filterMap_congr (fun r hr => ?_)
    split
    · rfl
    · rename_i hfreed
      unfold settledEntry
      rw [if_neg]
      intro hcond
      obtain ⟨k, hk, hid, hw⟩ := hpending r hr hcond
      obtain ⟨i, hi⟩ := mem_heldKeys.mp hk
      refine hfreed ((Machine.freed_iff hu (fun j k' hk' => ?_)).mpr ⟨i, k, hi, hid, hw, hnone i⟩)
      have hj := hnone j
      rw [hk'] at hj
      cases hj

/-- Where every slot is EMPTY a trip changes nothing of the key table and the list. -/
theorem eraseKeys_empty {s : State} (h : ∀ k ∈ s.keys.slots, k = none) : s.eraseKeys = s := by
  have hnone : ∀ i, s.key i = none := by
    intro i
    rcases lt_or_ge i s.keys.slots.length with hi | hi
    · rw [key_eq_getElem hi]
      exact h _ (List.getElem_mem hi)
    · exact List.getD_eq_default _ _ hi
  unfold State.eraseKeys
  generalize List.range Config.keySlots = l
  induction l with
  | nil => rfl
  | cons i l ih =>
    have he : s.emptySlot i = s := by simp [State.emptySlot, hnone]
    rw [List.foldl_cons, he, ih]

/-! ## The bursts erased -/

theorem trip_eq_erased (fill : Beat) (e : Entry) : e.trip fill = e.erased fill := by
  unfold Entry.trip Entry.erased Entry.trackerState
  cases hk : e.kind with
  | span => rfl
  | passThrough => rfl
  | write w => rfl
  | cipher t =>
    simp only [EntryKind.tracker, Option.map_some]
    cases t.state <;> rfl

/-- A request is stopped: neither DECIDED nor IN_LANE, and with no beat decided PLAIN still to be returned (R109). -/
def Entry.stopped (e : Entry) : Prop :=
  e.trackerState ≠ some .decided ∧ e.trackerState ≠ some .inLane ∧ ∀ b ∈ e.response.drop e.returned, b.plain = false

theorem erased_plain (fill : Beat) (b : OutBeat) : (b.erased fill).plain = false := by
  unfold OutBeat.erased
  split
  · rfl
  · rename_i h
    simpa using h

/-- What is left of a response to return once it is erased. -/
theorem drop_erased (fill : Beat) (n : Nat) (response : List OutBeat) :
    ∀ b ∈ (response.take n ++ (response.drop n).map (OutBeat.erased fill)).drop n, b.plain = false := by
  intro b hb
  rcases le_or_gt response.length n with hn | hn
  · rw [List.drop_eq_nil_of_le hn, List.map_nil, List.append_nil, List.take_of_length_le hn,
      List.drop_eq_nil_of_le hn] at hb
    cases hb
  · rw [List.drop_left' (by rw [List.length_take]; omega), List.mem_map] at hb
    obtain ⟨b', _, rfl⟩ := hb
    exact erased_plain fill b'

/-- A trip stops every request, where a burst without a decision holds no beat decided PLAIN (R109). -/
theorem erased_stopped {fill : Beat} {e : Entry}
    (h : e.trackerState = none ∨ e.trackerState = some .awaitingMemory → ∀ b ∈ e.response, b.plain = false) :
    (e.erased fill).stopped := by
  have hstays : e.erased fill = e → (e.trackerState = none ∨ e.trackerState = some .awaitingMemory) →
      (e.erased fill).stopped := by
    intro he hs
    rw [he]
    refine ⟨?_, ?_, fun b hb => h hs b (List.mem_of_mem_drop hb)⟩ <;> rcases hs with hs | hs <;> rw [hs] <;> simp
  have hkind : ∀ t, e.kind = .cipher t → e.trackerState = some t.state := fun t ht => by
    simp [Entry.trackerState, EntryKind.tracker, ht]
  cases hk : e.kind with
  | span => exact hstays (by simp [Entry.erased, hk]) (.inl (by simp [Entry.trackerState, EntryKind.tracker, hk]))
  | passThrough =>
    exact hstays (by simp [Entry.erased, hk]) (.inl (by simp [Entry.trackerState, EntryKind.tracker, hk]))
  | write w => exact hstays (by simp [Entry.erased, hk]) (.inl (by simp [Entry.trackerState, EntryKind.tracker, hk]))
  | cipher t =>
    cases ht : t.state with
    | awaitingMemory => exact hstays (by simp [Entry.erased, hk, ht]) (.inr (by rw [hkind t hk, ht]))
    | decided =>
      unfold Entry.erased Entry.stopped
      simp only [hk, ht]
      exact ⟨by simp [Entry.trackerState, EntryKind.tracker], by simp [Entry.trackerState, EntryKind.tracker],
        drop_erased fill e.returned e.response⟩
    | inLane =>
      unfold Entry.erased Entry.stopped
      simp only [hk, ht]
      exact ⟨by simp [Entry.trackerState, EntryKind.tracker], by simp [Entry.trackerState, EntryKind.tracker],
        drop_erased fill e.returned e.response⟩
    | returning =>
      unfold Entry.erased Entry.stopped
      simp only [hk, ht]
      exact ⟨by simp [Entry.trackerState, EntryKind.tracker, ht], by simp [Entry.trackerState, EntryKind.tracker, ht],
        drop_erased fill e.returned e.response⟩

/-- A trip changes nothing of a stopped request (R109). -/
theorem erased_of_stopped {fill : Beat} {e : Entry} (h : e.stopped) : e.erased fill = e := by
  obtain ⟨hdecided, hlane, hplain⟩ := h
  have hresponse : e.response.take e.returned ++ (e.response.drop e.returned).map (OutBeat.erased fill) =
    e.response := by
    have hmap : (e.response.drop e.returned).map (OutBeat.erased fill) = e.response.drop e.returned := by
      refine (List.map_congr_left (fun b hb => ?_)).trans (List.map_id _)
      simp [OutBeat.erased, hplain b hb]
    rw [hmap, List.take_append_drop]
  unfold Entry.erased
  rw [hresponse]
  cases hk : e.kind with
  | span => rfl
  | passThrough => rfl
  | write w => rfl
  | cipher t =>
    have hstate : e.trackerState = some t.state := by simp [Entry.trackerState, EntryKind.tracker, hk]
    rw [hstate] at hdecided hlane
    cases ht : t.state with
    | decided => exact absurd (congrArg some ht) hdecided
    | inLane => exact absurd (congrArg some ht) hlane
    | awaitingMemory => simp [ht]
    | returning =>
      simp only [ht]
      rw [← hk]

theorem tripCipher_spec (s : State) :
    s.tripCipher.path.entries = s.path.entries.map (Entry.erased s.plan.fill)
      ∧ (∀ j ∈ s.tripCipher.engine.lanes, j = none) ∧ s.tripCipher.engine.lastGranted = s.engine.lastGranted := by
  have hmap : Entry.trip s.plan.fill = Entry.erased s.plan.fill := funext (trip_eq_erased _)
  refine ⟨?_, fun j hj => ?_, rfl⟩
  · rw [← hmap]
    rfl
  · exact (List.mem_replicate.mp (show j ∈ List.replicate Config.lanes none from hj)).2

/-! ## The intake unit -/

theorem isTime_eq (f : Captured) : f.isTime = decide (f.kind = 0x04) := by
  unfold Captured.isTime parcelKind
  by_cases h : f.kind = 0x04
  · simp [h]
  · simp only [h, decide_false, if_false, decide_eq_false_iff_not]
    split_ifs <;> simp

theorem refuseAll_spec (l : List QueueEntry) (s : State) :
    let t := l.foldl (fun s e => s.refuseParcel .tripped e.fields e.cell noIndex) s
    t.intake = s.intake
      ∧ HandsOver s.report t.report (l.map (fun e => refusedRecord s e.fields e.cell .tripped 0xFFFF)) := by
  have h : ∀ (l : List QueueEntry) (v : State), v.clock = s.clock →
      (l.foldl (fun s e => s.refuseParcel .tripped e.fields e.cell noIndex) v).intake = v.intake
        ∧ HandsOver v.report (l.foldl (fun s e => s.refuseParcel .tripped e.fields e.cell noIndex) v).report
            (l.map (fun e => refusedRecord s e.fields e.cell .tripped 0xFFFF)) := by
    intro l
    induction l with
    | nil => exact fun v _ => ⟨rfl, handsOver_nil rfl⟩
    | cons e l ih =>
      intro v hv
      obtain ⟨hintake, hreport⟩ := ih (v.refuseParcel .tripped e.fields e.cell noIndex) hv
      have hrecord : v.parcelRefusedRecord .tripped e.fields e.cell noIndex =
          refusedRecord s e.fields e.cell .tripped 0xFFFF := by
        rw [State.parcelRefusedRecord, recordSeconds_congr hv]
        rfl
      have hone : HandsOver v.report (v.refuseParcel .tripped e.fields e.cell noIndex).report
          [refusedRecord s e.fields e.cell .tripped 0xFFFF] := by
        rw [← hrecord]
        exact handsOver_handOver v _
      exact ⟨hintake, handsOver_trans hone hreport⟩
  exact h l s rfl

/-- A trip under a parcel with its owner: the queue keeps its TIME entries, and the others are refused (R142). -/
theorem tripIntake_spec {s : State} {cell : Nat} {buffer : List Beat}
    (hv : s.intake.verifier = .withOwner cell buffer) :
    s.tripIntake.intake = { s.intake with queue := s.timeEntries }
      ∧ HandsOver s.report s.tripIntake.report
          (s.tripRefused.map (fun p => refusedRecord s p.2 p.1 .tripped 0xFFFF)) := by
  have hstands : (if s.intake.verifier.isTime then s else s.abandonVerification .tripped) = s := by
    simp [hv, Verifier.isTime, State.abandonVerification]
  have htime : s.intake.queue.filter (fun e => e.fields.isTime) = s.timeEntries := by
    unfold State.timeEntries
    exact congrArg (fun f => List.filter f s.intake.queue) (funext fun e => isTime_eq e.fields)
  have hrefused : s.tripRefused.map (fun p => refusedRecord s p.2 p.1 .tripped 0xFFFF) =
      (s.intake.queue.filter (fun e => !e.fields.isTime)).map
        (fun e => refusedRecord s e.fields e.cell .tripped 0xFFFF) := by
    have hf : (fun e : QueueEntry => !e.fields.isTime) =
        (fun p : Nat × Captured => decide (p.2.kind ≠ 0x04)) ∘ fun e => (e.cell, e.fields) := by
      funext e
      simp [isTime_eq]
    rw [State.tripRefused, hv, hf]
    simp only [Verifier.parcel, Option.toList_none, List.nil_append, List.filter_map, List.map_map]
    rfl
  obtain ⟨hintake, hreport⟩ := refuseAll_spec (s.intake.queue.filter (fun e => !e.fields.isTime))
    (s.setQueue s.timeEntries)
  have ht : s.tripIntake = ((s.intake.queue.filter (fun e => !e.fields.isTime)).foldl
      (fun s e => s.refuseParcel .tripped e.fields e.cell noIndex) (s.setQueue s.timeEntries)).takeHead := by
    unfold State.tripIntake
    rw [hstands, ← htime]
  generalize (s.intake.queue.filter (fun e => !e.fields.isTime)).foldl
      (fun s e => s.refuseParcel .tripped e.fields e.cell noIndex) (s.setQueue s.timeEntries) = v at hintake hreport ht
  have hvv : v.intake.verifier = .withOwner cell buffer := by rw [hintake]; exact hv
  have hhead : v.takeHead = v := by
    unfold State.takeHead
    rw [hvv]
  rw [ht, hhead, hrefused]
  exact ⟨hintake, hreport⟩

end Sys2Proof.Machine
end

section
/-! The whole of a trip under a parcel with its owner (R142, R176, R178). -/

namespace Sys2Proof.Machine

/-! ## Steps 2 to 5 of a trip -/

theorem tripEnd_congr {s t : State} (hclock : t.recordSeconds = s.recordSeconds) (hleases : t.leases = s.leases) :
    t.tripEnd = s.tripEnd := by
  funext i
  rw [State.tripEnd, State.tripEnd, lease_congr hleases, hclock]

theorem refusedRecord_congr {s t : State} (h : t.recordSeconds = s.recordSeconds) (fields : Captured) (cell : Nat)
    (cause : RefusalCause) (index : BitVec 16) :
    refusedRecord t fields cell cause index = refusedRecord s fields cell cause index := by
  rw [refusedRecord, refusedRecord, h]

/-- The records of a trip depend on the reading's record seconds, the leases' shows and the intake unit. -/
theorem tripRecords_congr {s t : State} (hseconds : t.recordSeconds = s.recordSeconds) (hends : t.tripEnd = s.tripEnd)
    (hintake : t.intake = s.intake) (tripped : Record) : t.tripRecords tripped = s.tripRecords tripped := by
  have hrefused : t.tripRefused = s.tripRefused := by rw [State.tripRefused, State.tripRefused, hintake]
  rw [tripRecords_eq, tripRecords_eq, hends, hrefused]
  simp only [refusedRecord_congr hseconds]

/-- Steps 2 to 5 of a trip, whatever the keys, but for what they leave of the keys and the leases (R109, R142, R176). -/
structure TripDone (s t : State) : Prop where
  intake : t.intake = { s.intake with queue := s.timeEntries }
  lanes : ∀ j ∈ t.engine.lanes, j = none
  granted : t.engine.lastGranted = s.engine.lastGranted
  entries : t.path.entries = s.path.entries.map (Entry.erased s.plan.fill)
  report : ∀ tripped r, HandsOver r s.report [tripped] → HandsOver r t.report (s.tripRecords tripped)

theorem tripLeases_report {s : State} (h : s.leases.length = 16 ∨ ∀ l ∈ s.leases, l = .idle) :
    HandsOver s.report s.tripLeases.report ((List.range 16).filterMap s.tripEnd) := by
  rcases h with hlen | hidle
  · exact (tripLeases_spec hlen).2
  · have hnone : (List.range 16).filterMap s.tripEnd = [] := by
      refine List.filterMap_eq_nil_iff.mpr (fun i _ => ?_)
      have hi : s.lease i = .idle := by
        rcases lt_or_ge i s.leases.length with hi | hi
        · exact hidle _ (lease_mem hi)
        · exact List.getD_eq_default _ _ hi
      rw [State.tripEnd, hi]
    rw [(idle_notices hidle).2, hnone]
    exact handsOver_nil rfl

theorem tripBlocks_done {s : State} {cell : Nat} {buffer : List Beat} (hv : s.intake.verifier = .withOwner cell buffer)
    (hleases : s.leases.length = 16 ∨ ∀ l ∈ s.leases, l = .idle) : TripDone s s.tripBlocks := by
  obtain ⟨hentries, hlanes, hgranted⟩ := tripCipher_spec s
  have hcipher : Touches [.entries, .engine] s s.tripCipher := tripCipher_touches s
  have hends : HandsOver s.tripCipher.report s.tripCipher.tripLeases.report ((List.range 16).filterMap s.tripEnd) := by
    rw [← tripEnd_congr (recordSeconds_congr (hcipher .clock (by simp))) (hcipher .leases (by simp))]
    refine tripLeases_report ?_
    rw [hcipher .leases (by simp)]
    exact hleases
  have hlease : Touches [.leases, .report] s.tripCipher s.tripCipher.tripLeases := tripLeases_leaves _
  have herase : Touches [.keys, .revocations] s.tripCipher.tripLeases s.tripCipher.tripLeases.eraseKeys :=
    eraseKeys_touches _
  have hbefore : Touches [.entries, .engine, .leases, .keys, .revocations, .report] s
      s.tripCipher.tripLeases.eraseKeys :=
    touches_then (touches_then (touches_of hcipher rfl) hlease rfl) herase rfl
  unfold State.tripBlocks
  have hafter := tripIntake_touches s.tripCipher.tripLeases.eraseKeys
  have hintake : s.tripCipher.tripLeases.eraseKeys.intake = s.intake := hbefore .intake (by simp)
  obtain ⟨hspec, hrefused⟩ := tripIntake_spec (s := s.tripCipher.tripLeases.eraseKeys) (by rw [hintake]; exact hv)
  have hengine : s.tripCipher.tripLeases.eraseKeys.tripIntake.engine = s.tripCipher.engine :=
    (hafter .engine (by simp)).trans ((herase .engine (by simp)).trans (hlease .engine (by simp)))
  have hseconds : s.tripCipher.tripLeases.eraseKeys.recordSeconds = s.recordSeconds :=
    recordSeconds_congr (hbefore .clock (by simp))
  have htime : s.tripCipher.tripLeases.eraseKeys.timeEntries = s.timeEntries := by
    rw [State.timeEntries, State.timeEntries, hintake]
  have hnames : s.tripCipher.tripLeases.eraseKeys.tripRefused = s.tripRefused := by
    rw [State.tripRefused, State.tripRefused, hintake]
  refine ⟨by rw [hspec, htime, hintake], by rw [hengine]; exact hlanes, by rw [hengine, hgranted], ?_,
    fun tripped r hr => ?_⟩
  · exact (hafter .entries (by simp)).trans ((herase .entries (by simp)).trans
      ((hlease .entries (by simp)).trans hentries))
  · have hkeep : HandsOver s.tripCipher.tripLeases.report s.tripCipher.tripLeases.eraseKeys.report [] :=
      handsOver_of_touches herase (by simp)
    have hstart : HandsOver s.report s.tripCipher.report [] := handsOver_of_touches hcipher (by simp)
    rw [hnames] at hrefused
    simp only [refusedRecord_congr hseconds] at hrefused
    have hall := handsOver_trans hr (handsOver_trans hstart (handsOver_trans hends (handsOver_trans hkeep hrefused)))
    rw [tripRecords_eq]
    simpa only [List.nil_append, List.append_assoc, List.singleton_append, List.cons_append] using hall

/-- A trip leaves keyed service stopped, where every burst without a decision holds no beat decided PLAIN (R28, R73,
R109). -/
theorem tripBlocks_stops {s : State} {cell : Nat} {buffer : List Beat} (hv : s.intake.verifier = .withOwner cell buffer)
    (hlaw : KeyTableLaw s) (hlen : s.leases.length = 16) (htags : TagLaw s) :
    Stopped s.tripBlocks ∧ s.tripBlocks.keys.generation = s.keys.generation
      ∧ (RevocationLaw s → s.tripBlocks.revocations = s.revocations.filterMap (settledEntry s.nowSeconds)) := by
  have hdone := tripBlocks_done hv (.inl hlen)
  have hcipher : Touches [.entries, .engine] s s.tripCipher := tripCipher_touches s
  have hlease : Touches [.leases, .report] s.tripCipher s.tripCipher.tripLeases := tripLeases_leaves _
  have hafter := tripIntake_touches s.tripCipher.tripLeases.eraseKeys
  have hkeys : s.tripCipher.tripLeases.keys = s.keys := (hlease .keys (by simp)).trans (hcipher .keys (by simp))
  have hrevocations : s.tripCipher.tripLeases.revocations = s.revocations :=
    (hlease .revocations (by simp)).trans (hcipher .revocations (by simp))
  have hclock : s.tripCipher.tripLeases.clock = s.clock := (hlease .clock (by simp)).trans (hcipher .clock (by simp))
  have hlaw' : KeyTableLaw s.tripCipher.tripLeases := by
    unfold KeyTableLaw State.heldKeys
    rw [hkeys]
    exact hlaw
  obtain ⟨hnone, hgen, hrev⟩ := eraseKeys_spec hlaw'
  obtain ⟨hidle, _⟩ := tripLeases_spec (s := s.tripCipher) (by rw [hcipher .leases (by simp)]; exact hlen)
  have hkeysAfter : s.tripBlocks.keys = s.tripCipher.tripLeases.eraseKeys.keys := hafter .keys (by simp)
  refine ⟨⟨?_, ?_, hdone.lanes, fun e he => ?_⟩, ?_, fun hrl => ?_⟩
  · rw [hkeysAfter]
    exact hnone
  · rw [show s.tripBlocks.leases = s.tripCipher.tripLeases.leases from
      (hafter .leases (by simp)).trans (eraseKeys_touches _ .leases (by simp))]
    exact hidle
  · rw [hdone.entries, List.mem_map] at he
    obtain ⟨e', he', rfl⟩ := he
    obtain ⟨_, _, _, _, hplain⟩ := htags
    exact erased_stopped (hplain e' he')
  · rw [hkeysAfter, hgen, hkeys]
  · have hrl' : RevocationLaw s.tripCipher.tripLeases := by
      unfold RevocationLaw NonePassed State.heldKeys
      rw [hkeys, hrevocations, hclock]
      exact hrl
    rw [show s.tripBlocks.revocations = s.tripCipher.tripLeases.eraseKeys.revocations from
      hafter .revocations (by simp),
      hrev hrl', hrevocations, nowSeconds_congr hclock]

/-- A trip under stopped service leaves the tables and the requests as they are (R178). -/
theorem tripBlocks_stopped {s : State} (h : Stopped s) :
    Touches [.engine, .counters, .waiting, .intake, .report] s s.tripBlocks := by
  obtain ⟨hkeys, hleases, _, hentries⟩ := h
  have hcipher : Touches [.engine] s s.tripCipher := by
    have hsame : s.path.entries.map (Entry.trip s.plan.fill) = s.path.entries := by
      refine (List.map_congr_left (fun e he => ?_)).trans (List.map_id _)
      rw [trip_eq_erased, erased_of_stopped (hentries e he)]
      rfl
    rw [State.tripCipher, hsame]
    exact touches_of (setEngine_touches s _) rfl
  have hidle : s.tripCipher.tripLeases = s.tripCipher :=
    (idle_notices (by rw [hcipher .leases (by simp)]; exact hleases)).2
  have hempty : s.tripCipher.eraseKeys = s.tripCipher :=
    eraseKeys_empty (by rw [hcipher .keys (by simp)]; exact hkeys)
  rw [State.tripBlocks, hidle, hempty]
  exact touches_then (touches_of hcipher rfl) (tripIntake_touches _) rfl

/-! ## A cause taken -/

/-- What a cause taken under a parcel with its owner leaves, whatever the keys (R109, R142, R176, R178). -/
structure TripTaken (s t : State) (tripped : Record) : Prop where
  intake : t.intake = { s.intake with queue := s.timeEntries }
  lanes : ∀ j ∈ t.engine.lanes, j = none
  granted : t.engine.lastGranted = s.engine.lastGranted
  entries : t.path.entries = s.path.entries.map (Entry.erased s.plan.fill)
  report : HandsOver s.report t.report (s.tripRecords tripped)

/-- Step 1 of a trip: the latch, the status event and the record (R176). -/
def State.latched (s : State) (cause : TripCause) (tripped : Record) : State :=
  (s.setLatch (.tripped cause)).statusEvent.handOver tripped

theorem latched_touches (s : State) (cause : TripCause) (tripped : Record) :
    Touches [.trip, .report, .status] s (s.latched cause tripped) :=
  touches_then (touches_then (touches_of (setLatch_touches s _) rfl) (statusEvent_touches _) rfl)
    (handOver_touches _ _) rfl

/-- A cause taken while NORMAL, with the main domain up (R176). -/
theorem takeCause_first {s : State} (h : s.trip.latch = .normal) (hup : s.mainUp = true) (cause : TripCause)
    (n : BitVec 32) :
    s.takeCause cause n = (s.latched cause (s.trippedRecord cause n .first cause s.slotsInUse)).tripBlocks := by
  simp [State.takeCause, State.latched, h, hup]

/-- A cause taken while TRIPPED, with the main domain up (R178). -/
theorem takeCause_again {s : State} {recorded : TripCause} (h : s.trip.latch = .tripped recorded)
    (hup : s.mainUp = true) (cause : TripCause) (n : BitVec 32) :
    s.takeCause cause n = (s.handOver (s.trippedRecord cause n .again recorded 0)).tripBlocks := by
  simp [State.takeCause, h, hup]

/-- Steps 2 to 5 follow a state that differs in the latch and the report alone. -/
theorem tripTaken_of_done {s v t : State} {tripped : Record} (htouch : Touches [.trip, .report, .status] s v)
    (hreport : HandsOver s.report v.report [tripped]) (h : TripDone v t) : TripTaken s t tripped := by
  have hintake : v.intake = s.intake := htouch .intake (by simp)
  have hclock : v.recordSeconds = s.recordSeconds := recordSeconds_congr (htouch .clock (by simp))
  have htime : v.timeEntries = s.timeEntries := by rw [State.timeEntries, State.timeEntries, hintake]
  refine ⟨by rw [h.intake, hintake, htime], h.lanes, by rw [h.granted, htouch .engine (by simp)], ?_, ?_⟩
  · rw [h.entries, htouch .entries (by simp), htouch .plan (by simp)]
  · rw [← tripRecords_congr hclock (tripEnd_congr hclock (htouch .leases (by simp))) hintake]
    exact h.report tripped _ hreport

/-- A status beat that is due stays due when a cause is taken. -/
theorem takeCause_status {s : State} (h : s.report.statusPending = true) (cause : TripCause) (n : BitVec 32) :
    (s.takeCause cause n).report.statusPending = true := by
  have hblocks : ∀ v : State, v.report.statusPending = true → v.tripBlocks.report.statusPending = true :=
    fun v hv => (tripBlocks_touches v .status (by simp)).trans hv
  have hrecord : ∀ (v : State) q, v.report.statusPending = true → (v.handOver q).report.statusPending = true :=
    fun v q hv => (handOver_touches v q .status (by simp)).trans hv
  unfold State.takeCause
  split
  · dsimp only
    split
    · exact hblocks _ (hrecord _ _ rfl)
    · exact h
  · split
    · exact hblocks _ (hrecord _ _ h)
    · exact h

section First

variable {s : State} {cell : Nat} {buffer : List Beat}

theorem takeCause_first_taken (hnormal : s.trip.latch = .normal) (hup : s.mainUp = true)
    (hv : s.intake.verifier = .withOwner cell buffer) (hlen : s.leases.length = 16) (cause : TripCause)
    (n : BitVec 32) :
    TripTaken s (s.takeCause cause n) (s.trippedRecord cause n .first cause s.slotsInUse)
      ∧ (s.takeCause cause n).trip = { s.trip with latch := .tripped cause } := by
  rw [takeCause_first hnormal hup]
  generalize s.trippedRecord cause n .first cause s.slotsInUse = tripped
  have htouch := latched_touches s cause tripped
  have hblocks := tripBlocks_touches (s.latched cause tripped)
  have hdone := tripBlocks_done (s := s.latched cause tripped) (by rw [htouch .intake (by simp), hv])
    (.inl (by rw [htouch .leases (by simp), hlen]))
  exact ⟨tripTaken_of_done htouch
    (handsOver_trans (handsOver_statusEvent (s.setLatch _)) (handsOver_handOver _ _)) hdone, hblocks .trip (by simp)⟩

theorem takeCause_first_stops (hnormal : s.trip.latch = .normal) (hup : s.mainUp = true)
    (hv : s.intake.verifier = .withOwner cell buffer) (hlaw : KeyTableLaw s) (hlen : s.leases.length = 16)
    (htags : TagLaw s) (cause : TripCause) (n : BitVec 32) :
    Stopped (s.takeCause cause n) ∧ (s.takeCause cause n).keys.generation = s.keys.generation
      ∧ (RevocationLaw s →
          (s.takeCause cause n).revocations = s.revocations.filterMap (settledEntry s.nowSeconds)) := by
  rw [takeCause_first hnormal hup]
  generalize s.trippedRecord cause n .first cause s.slotsInUse = tripped
  exact tripBlocks_stops (s := s.latched cause tripped) hv hlaw hlen htags

end First

/-- A cause taken under stopped service: a REPEAT leaves the tables and the requests as they are (R178). -/
theorem takeCause_again_taken {s : State} {cell : Nat} {buffer : List Beat} {recorded : TripCause}
    (htrip : s.trip.latch = .tripped recorded) (hup : s.mainUp = true)
    (hv : s.intake.verifier = .withOwner cell buffer) (hstopped : Stopped s) (cause : TripCause) (n : BitVec 32) :
    TripTaken s (s.takeCause cause n) (s.trippedRecord cause n .again recorded 0)
      ∧ Touches [.engine, .counters, .waiting, .intake, .report] s (s.takeCause cause n) := by
  rw [takeCause_again htrip hup]
  generalize s.trippedRecord cause n .again recorded 0 = tripped
  have htouch : Touches [.report] s (s.handOver tripped) := handOver_touches s _
  have hdone := tripBlocks_done (s := s.handOver tripped) hv (.inr hstopped.2.1)
  refine ⟨tripTaken_of_done (touches_of htouch rfl) (handsOver_handOver s _) hdone, ?_⟩
  exact touches_then (touches_of htouch rfl) (tripBlocks_stopped (s := s.handOver tripped) hstopped) rfl

end Sys2Proof.Machine
end

section
/-! The entry of the clock into SUSPECT, with the trip of the third in a day (R40, R69, R176, R178, R180). -/

namespace Sys2Proof.Machine

/-! ## The clock's own part and the hold notice -/

/-- The clock at an entry into SUSPECT (R40). -/
def Clock.suspected (c : Clock) : Clock :=
  { c with state := .suspect, remainder := 0, timer := 0, hold := false, suspectCount := min (c.suspectCount + 1) 3 }

/-- The clock set and told, before the leases hear of it (R40). -/
def State.suspectTold (s : State) (n : BitVec 32) : State :=
  (s.setClock { s.clock.clearDiscipline with suspectCount := min (s.clock.suspectCount + 1) 3 }).changeClockState
    .suspect n

/-- The CLOCK_STATE record of an entry into SUSPECT (R32). -/
def suspectRecord (s : State) (p : Dispatched) : Record :=
  { kind := .clockState, cause := 2, stream := 0xFF, subject := p.fields.number, seconds := s.recordSeconds
    data0 := 1, data1 := 0, data2 := 0, index := 0xFFFF }

theorem enterSuspect_eq (s : State) (n : BitVec 32) :
    s.enterSuspect n =
      if min (s.clock.suspectCount + 1) 3 = 3 then (s.suspectTold n).holdNotice.takeCause .suspectRepeat n
      else (s.suspectTold n).holdNotice := rfl

theorem suspectTold_spec {s : State} (p : Dispatched) (hrun : s.clock.state = .running) :
    let t := s.suspectTold p.fields.number
    t.clock = s.clock.suspected ∧ HandsOver s.report t.report [suspectRecord s p] ∧ t.report.statusPending = true
      ∧ Touches [.clock, .report, .status] s t := by
  have hseconds : (s.setClock s.clock.suspected).recordSeconds = s.recordSeconds := by
    simp [State.recordSeconds, State.nowSeconds, Clock.seconds, Clock.suspected, hrun]
  have hrecord : (s.setClock s.clock.suspected).clockStateRecord .running p.fields.number = suspectRecord s p := by
    rw [State.clockStateRecord, hseconds]
    rfl
  have ht : s.suspectTold p.fields.number =
      ((s.setClock s.clock.suspected).handOver (suspectRecord s p)).statusEvent := by
    rw [← hrecord, ← hrun]
    rfl
  rw [ht]
  exact ⟨rfl, handsOver_handOver (s.setClock _) _, rfl,
    touches_then (touches_then (touches_of (setClock_touches s _) rfl) (handOver_touches _ _) rfl)
      (statusEvent_touches _) rfl⟩

theorem suspected_recordSeconds {s t : State} (hclock : t.clock = s.clock.suspected) (hrun : s.clock.state = .running) :
    t.recordSeconds = s.recordSeconds := by
  simp [State.recordSeconds, State.nowSeconds, Clock.seconds, hclock, Clock.suspected, hrun]

/-- A lease held ends at a trip with the record it would have had (R69, R73). -/
theorem tripEnd_held {s t : State} {now : Nat} (hseconds : t.recordSeconds = s.recordSeconds)
    (hleases : t.leases = s.leases.map (Lease.heldAt now)) : t.tripEnd = s.tripEnd := by
  have hlease : ∀ i, t.lease i = (s.lease i).heldAt now := by
    intro i
    rw [State.lease, State.lease, hleases, List.getD, List.getD, List.getElem?_map]
    cases s.leases[i]? <;> rfl
  funext i
  rw [State.tripEnd, State.tripEnd, hlease i, hseconds]
  cases s.lease i with
  | idle => rfl
  | refused tag refusal => rfl
  | serving st sh => cases st <;> rfl

theorem holdRecords_congr {s t : State} (hseconds : t.recordSeconds = s.recordSeconds) (hleases : t.leases = s.leases) :
    t.holdRecords = s.holdRecords := by
  rw [holdRecords_eq, holdRecords_eq]
  refine congrArg (fun f => (List.range 16).filterMap f) (funext fun i => ?_)
  rw [State.holdRecord, State.holdRecord, lease_congr hleases, hseconds]

/-- The entry into SUSPECT with its hold notice (R40, R69). -/
theorem suspectHeld_spec {s : State} (p : Dispatched) (hrun : s.clock.state = .running)
    (hlen : s.leases.length = 16) :
    let t := (s.suspectTold p.fields.number).holdNotice
    t.clock = s.clock.suspected ∧ HandsOver s.report t.report (suspectRecord s p :: s.holdRecords)
      ∧ t.report.statusPending = true ∧ Touches [.clock, .leases, .report, .status] s t
      ∧ t.leases = s.leases.map (Lease.heldAt (s.clock.reading / 65536)) := by
  obtain ⟨hclock, hreport, hstatus, htouch⟩ := suspectTold_spec p hrun
  have hleases : (s.suspectTold p.fields.number).leases = s.leases := htouch .leases (by simp)
  obtain ⟨hheld, hrecords⟩ := holdNotice_spec (s := s.suspectTold p.fields.number) (by rw [hleases, hlen])
  have hhold := holdNotice_touches (s.suspectTold p.fields.number)
  rw [holdRecords_congr (suspected_recordSeconds hclock hrun) hleases] at hrecords
  refine ⟨(hhold .clock (by simp)).trans hclock, handsOver_trans hreport hrecords,
    (hhold .status (by simp)).trans hstatus, touches_then (touches_of htouch rfl) hhold rfl, ?_⟩
  rw [hheld, hleases, State.nowSeconds, hclock, Clock.seconds_eq]
  rfl

/-! ## The answer after a trip -/

theorem answerTaken_intake (s : State) (p : Dispatched) (data) :
    (s.answerTaken p data).intake.commits = s.intake.commits ∧ TakesHead (s.answerTaken p data) s.intake.queue :=
  ⟨takeHead_commits _,
    takeHead_takesHead
      (s := (s.handOver (s.parcelTakenRecord p.fields.kind p.fields.number p.cell data)).endVerification) rfl⟩

/-- What a TIME parcel's own trip leaves of the intake unit, and the records in their order (R46, R142, R176). -/
theorem answerTrip_spec {s u w : State} {p : Dispatched} {before : List Record} {tripped : Record}
    (htaken : TripTaken u w tripped) (hintake : u.intake = s.intake) (hseconds : w.recordSeconds = s.recordSeconds)
    (hbefore : HandsOver s.report u.report before) (hrecords : u.tripRecords tripped = s.tripRecords tripped) :
    let t := (w.answerTaken p (timeData .suspect (s.timeOffset (timeBody p.bytes)))).presentReport
    t.intake.commits = s.intake.commits ∧ TakesHead t s.timeEntries
      ∧ HandsOver s.report t.report (before ++ s.tripRecords tripped ++ [timeRecord s p 5 s.recordSeconds]) := by
  intro t
  obtain ⟨_, _, _, _, hlast, _⟩ := answerTime_spec (s := s) (p := p) (outcome := .suspect) hseconds
  have htime : u.timeEntries = s.timeEntries := by rw [State.timeEntries, State.timeEntries, hintake]
  have hw : w.intake = { s.intake with queue := s.timeEntries } := by rw [htaken.intake, hintake, htime]
  refine ⟨?_, ?_, handsOver_trans (handsOver_trans hbefore (hrecords ▸ htaken.report)) hlast⟩
  · rw [show t.intake = _ from presentReport_intake _, (answerTaken_intake w p _).1, hw]
  · have hhead := (answerTaken_intake w p (timeData .suspect (s.timeOffset (timeBody p.bytes)))).2
    rw [show w.intake.queue = s.timeEntries by rw [hw]] at hhead
    exact takesHead_presentReport hhead

/-- The parcel with its owner stands in the verifier. -/
theorem dispatched_verifier {s : State} {kind : ParcelKind} {p : Dispatched} (h : s.dispatched kind = some p) :
    ∃ cell buffer, s.intake.verifier = .withOwner cell buffer := by
  unfold State.dispatched at h
  split at h
  · rename_i cell buffer hv
    exact ⟨cell, buffer, hv⟩
  all_goals cases h

/-- The clock's answer to a correction of outcome SUSPECT while RUNNING (R40). -/
theorem timeTaken_suspect {s : State} {p : Dispatched} (hresync : (timeBody p.bytes).resync = false)
    (hrun : s.clock.state = .running) (hweigh : s.clock.weigh (s.timeOffset (timeBody p.bytes)) = .suspect) :
    s.timeTaken p = (s.enterSuspect p.fields.number).answerTaken p
      (timeData .suspect (s.timeOffset (timeBody p.bytes))) := by
  rw [timeTaken_correction rfl hresync, hweigh]
  simp [State.correct, hrun]

theorem stopped_congr {s t : State} {bs : List Block} (h : Touches bs s t) (hk : .keys ∉ bs) (hl : .leases ∉ bs)
    (hg : .engine ∉ bs) (he : .entries ∉ bs) (hs : Stopped s) : Stopped t := by
  have hkeys : t.keys = s.keys := h .keys hk
  have hleases : t.leases = s.leases := h .leases hl
  have hengine : t.engine = s.engine := h .engine hg
  have hentries : t.path.entries = s.path.entries := h .entries he
  unfold Stopped
  rw [hkeys, hleases, hengine, hentries]
  exact hs

end Sys2Proof.Machine
end

section
/-! The TIME parcels of outcome SUSPECT while RUNNING (R40, R69, R176, R178, R180). -/

namespace Sys2Proof.Machine

theorem suspected_eq {c : Clock} (h : 2 ≤ c.suspectCount) :
    c.suspected = { c with state := .suspect, remainder := 0, timer := 0, hold := false, suspectCount := 3 } := by
  have hcount : min (c.suspectCount + 1) 3 = 3 := by omega
  rw [Clock.suspected, hcount]

/-- A first or second SUSPECT entry of a day: the leases are HELD, and the parcel is answered (R40, R69). -/
theorem suspectEntry_holds {s : State} {p : Dispatched} (hresync : (timeBody p.bytes).resync = false)
    (hrun : s.clock.state = .running) (hweigh : s.clock.weigh (s.timeOffset (timeBody p.bytes)) = .suspect)
    (hlen : s.leases.length = 16) (hcount : s.clock.suspectCount < 2) :
    let t := (s.timeTaken p).presentReport
    t.leases = s.leases.map (Lease.heldAt (s.clock.reading / 65536))
      ∧ HandsOver s.report t.report (suspectRecord s p :: s.holdRecords ++ [timeRecord s p 5 s.recordSeconds])
      ∧ OwnerDone s t ∧ Touches [.clock, .leases, .counters, .waiting, .intake, .report, .status] s t := by
  intro t
  obtain ⟨hclock, hreport, _, htouch, hleases⟩ := suspectHeld_spec p hrun hlen
  have htaken : t = (((s.suspectTold p.fields.number).holdNotice).answerTaken p
      (timeData .suspect (s.timeOffset (timeBody p.bytes)))).presentReport := by
    rw [← if_neg (c := min (s.clock.suspectCount + 1) 3 = 3) (by omega)
      (t := (s.suspectTold p.fields.number).holdNotice.takeCause .suspectRepeat p.fields.number)
      (e := (s.suspectTold p.fields.number).holdNotice), ← enterSuspect_eq,
      ← timeTaken_suspect hresync hrun hweigh]
  generalize (s.suspectTold p.fields.number).holdNotice = u at hclock hreport htouch hleases htaken
  obtain ⟨_, _, htleases, _, htreport, _⟩ :=
    answerTime_spec (s := s) (p := p) (outcome := .suspect) (suspected_recordSeconds hclock hrun)
  rw [← htaken] at htleases htreport
  refine ⟨htleases.trans hleases, handsOver_trans hreport htreport, ?_, ?_⟩
  · rw [htaken]
    exact answerTaken_ownerDone (htouch .intake (by simp)) p _
  · rw [htaken]
    exact touches_then (touches_then (touches_of htouch rfl) (answerTaken_touches u p _) rfl)
      (presentReport_touches _) rfl

/-- The TRIPPED record of a third SUSPECT entry: its occasion, the recorded cause and the slots erased (R176, R178). -/
def repeatRecord (s : State) (p : Dispatched) (occasion recorded : BitVec 32) (erased : Nat) : Record :=
  { kind := .tripped, cause := 4, stream := 0xFF, subject := p.fields.number, seconds := s.recordSeconds
    data0 := occasion, data1 := recorded, data2 := BitVec.ofNat 32 erased, index := 0xFFFF }

theorem enterSuspect_third {s : State} (hcount : 2 ≤ s.clock.suspectCount) (n : BitVec 32) :
    s.enterSuspect n = (s.suspectTold n).holdNotice.takeCause .suspectRepeat n := by
  rw [enterSuspect_eq, if_pos (by omega)]

/-- The laws of the key table, of the list and of the tags after the hold notice. -/
theorem held_laws {s u : State} (h : Touches [.clock, .leases, .report, .status] s u)
    (hreading : u.clock.reading = s.clock.reading) :
    (KeyTableLaw s → KeyTableLaw u) ∧ (TagLaw s → TagLaw u) ∧ (RevocationLaw s → RevocationLaw u) := by
  have hkeys : u.keys = s.keys := h .keys (by simp)
  have hrevocations : u.revocations = s.revocations := h .revocations (by simp)
  have hcounters := Prod.mk.inj (h .counters (by simp))
  refine ⟨fun hlaw => ?_, fun htags => ?_, fun hrl => ?_⟩
  · unfold KeyTableLaw State.heldKeys
    rw [hkeys]
    exact hlaw
  · unfold TagLaw State.laneTags
    rw [h .entries (by simp), hcounters.1, h .engine (by simp)]
    exact htags
  · unfold RevocationLaw NonePassed State.heldKeys
    rw [hkeys, hrevocations, hreading]
    exact hrl

/-- A third SUSPECT entry of a day while NORMAL: the part trips (R40, R176). -/
theorem suspectEntry_trips {s : State} {p : Dispatched} (hp : s.dispatched .time = some p)
    (hresync : (timeBody p.bytes).resync = false) (hrun : s.clock.state = .running)
    (hweigh : s.clock.weigh (s.timeOffset (timeBody p.bytes)) = .suspect) (hnormal : s.trip.latch = .normal)
    (hlen : s.leases.length = 16) (hcount : 2 ≤ s.clock.suspectCount) (hlaw : KeyTableLaw s) (htags : TagLaw s) :
    let t := (s.timeTaken p).presentReport
    t.trip = { s.trip with latch := .tripped .suspectRepeat } ∧ Stopped t
      ∧ t.path.entries = s.path.entries.map (Entry.erased s.plan.fill)
      ∧ (RevocationLaw s → t.revocations = s.revocations.filterMap (settledEntry (s.clock.reading / 65536)))
      ∧ t.intake.commits = s.intake.commits ∧ TakesHead t s.timeEntries
      ∧ HandsOver s.report t.report (suspectRecord s p :: s.holdRecords
          ++ s.tripRecords (repeatRecord s p 1 4 s.slotsInUse) ++ [timeRecord s p 5 s.recordSeconds])
      ∧ t.keys.generation = s.keys.generation ∧ t.engine.lastGranted = s.engine.lastGranted
      ∧ Touches [.clock, .trip, .entries, .engine, .leases, .keys, .revocations, .counters, .waiting, .intake, .report,
          .status] s t := by
  intro t
  obtain ⟨cell, buffer, hverifier⟩ := dispatched_verifier hp
  obtain ⟨hclock, hreport, _, htouch, hleases⟩ := suspectHeld_spec p hrun hlen
  have htaken : t = ((s.enterSuspect p.fields.number).answerTaken p
      (timeData .suspect (s.timeOffset (timeBody p.bytes)))).presentReport := by
    rw [← timeTaken_suspect hresync hrun hweigh]
  rw [enterSuspect_third hcount] at htaken
  generalize (s.suspectTold p.fields.number).holdNotice = u at hclock hreport htouch hleases htaken
  have hseconds : u.recordSeconds = s.recordSeconds := suspected_recordSeconds hclock hrun
  have hreading : u.clock.reading = s.clock.reading := by
    rw [hclock]
    rfl
  have hup : u.mainUp = true := mainUp_iff.mpr ((htouch .power (by simp)).symm ▸ dispatched_up hp)
  have htrip : u.trip = s.trip := htouch .trip (by simp)
  have hintake : u.intake = s.intake := htouch .intake (by simp)
  have hulen : u.leases.length = 16 := by rw [hleases, List.length_map, hlen]
  obtain ⟨hulaw, hutags, hurl⟩ := held_laws htouch hreading
  have hrecord : u.trippedRecord .suspectRepeat p.fields.number .first .suspectRepeat u.slotsInUse =
      repeatRecord s p 1 4 s.slotsInUse := by
    have hslots : u.slotsInUse = s.slotsInUse := by
      rw [State.slotsInUse, State.slotsInUse, htouch .keys (by simp)]
    rw [State.trippedRecord, hseconds, hslots]
    rfl
  obtain ⟨hdone, hwtrip⟩ := takeCause_first_taken (htrip ▸ hnormal) hup (hintake ▸ hverifier) hulen .suspectRepeat
    p.fields.number
  obtain ⟨hstopped, hgen, hsettled⟩ := takeCause_first_stops (htrip ▸ hnormal) hup (hintake ▸ hverifier) (hulaw hlaw)
    hulen (hutags htags) .suspectRepeat p.fields.number
  have hcause := takeCause_touches u .suspectRepeat p.fields.number
  rw [hrecord] at hdone
  generalize u.takeCause .suspectRepeat p.fields.number = w at hdone hwtrip hstopped hgen hsettled hcause htaken
  have hwseconds : w.recordSeconds = s.recordSeconds := (recordSeconds_congr (hcause .clock (by simp))).trans hseconds
  obtain ⟨hcommits, hhead, hover⟩ := answerTrip_spec (p := p) hdone hintake hwseconds hreport
    (tripRecords_congr hseconds (tripEnd_held hseconds hleases) hintake _)
  have hanswer : Touches [.counters, .waiting, .intake, .report] w t := by
    rw [htaken]
    exact touches_then (touches_of (answerTaken_touches w p _) rfl) (presentReport_touches _) rfl
  rw [← htaken] at hcommits hhead hover
  refine ⟨?_, stopped_congr hanswer (by simp) (by simp) (by simp) (by simp) hstopped, ?_, fun hrl => ?_, hcommits,
    hhead, hover, ?_, ?_, touches_then (touches_then (touches_of htouch rfl) hcause rfl) hanswer rfl⟩
  · rw [hanswer .trip (by simp), hwtrip, htrip]
  · rw [hanswer .entries (by simp), hdone.entries, htouch .entries (by simp), htouch .plan (by simp)]
  · rw [hanswer .revocations (by simp), hsettled (hurl hrl), htouch .revocations (by simp), State.nowSeconds,
      Clock.seconds_eq, hreading]
  · rw [hanswer .keys (by simp), hgen, htouch .keys (by simp)]
  · rw [hanswer .engine (by simp), hdone.granted, htouch .engine (by simp)]

/-- Whichever entry of its day, the clock is SUSPECT and the status beat is due (R40, R186). -/
theorem suspectEntry_clock {s : State} {p : Dispatched} (hresync : (timeBody p.bytes).resync = false)
    (hrun : s.clock.state = .running) (hweigh : s.clock.weigh (s.timeOffset (timeBody p.bytes)) = .suspect) :
    (s.timeTaken p).presentReport.clock = s.clock.suspected
      ∧ (s.timeTaken p).presentReport.report.statusPending = true := by
  obtain ⟨_, _, hstatus, _⟩ := suspectTold_spec p hrun
  have hheld : (s.suspectTold p.fields.number).holdNotice.report.statusPending = true :=
    (holdNotice_touches _ .status (by simp)).trans hstatus
  have hentered : (s.enterSuspect p.fields.number).report.statusPending = true := by
    rw [enterSuspect_eq]
    split
    · exact takeCause_status hheld _ _
    · exact hheld
  have hclock : (s.enterSuspect p.fields.number).clock = s.clock.suspected := enterSuspect_clock s _
  obtain ⟨htclock, _, _, _, _, htstatus⟩ :=
    answerTime_spec (s := s) (p := p) (outcome := .suspect) (suspected_recordSeconds hclock hrun)
  rw [timeTaken_suspect hresync hrun hweigh]
  exact ⟨htclock.trans hclock, htstatus.trans hentered⟩

/-- A third SUSPECT entry of a day that meets an assertion of TAMPER_N, where the clock's checks came first: its
SUSPECT_REPEAT is a REPEAT (R138, R178, R180). -/
theorem suspectEntry_repeats {s : State} {p : Dispatched} (hp : s.dispatched .time = some p)
    (hresync : (timeBody p.bytes).resync = false) (hrun : s.clock.state = .running)
    (hweigh : s.clock.weigh (s.timeOffset (timeBody p.bytes)) = .suspect) (htamper : s.trip.latch = .tripped .tamper)
    (hstopped : Stopped s) (hcount : 2 ≤ s.clock.suspectCount) :
    let t := (s.timeTaken p).presentReport
    Stopped t ∧ t.intake.commits = s.intake.commits ∧ TakesHead t s.timeEntries
      ∧ HandsOver s.report t.report
          (suspectRecord s p :: s.tripRecords (repeatRecord s p 2 1 0) ++ [timeRecord s p 5 s.recordSeconds])
      ∧ Touches [.clock, .engine, .counters, .waiting, .intake, .report, .status] s t := by
  intro t
  obtain ⟨cell, buffer, hverifier⟩ := dispatched_verifier hp
  obtain ⟨hclock, hreport, _, htouch⟩ := suspectTold_spec p hrun
  have htaken : t = ((s.enterSuspect p.fields.number).answerTaken p
      (timeData .suspect (s.timeOffset (timeBody p.bytes)))).presentReport := by
    rw [← timeTaken_suspect hresync hrun hweigh]
  have hustopped : Stopped (s.suspectTold p.fields.number) :=
    stopped_congr htouch (by simp) (by simp) (by simp) (by simp) hstopped
  rw [enterSuspect_third hcount, (idle_notices hustopped.2.1).1] at htaken
  generalize s.suspectTold p.fields.number = u at hclock hreport htouch hustopped htaken
  have hseconds : u.recordSeconds = s.recordSeconds := suspected_recordSeconds hclock hrun
  have hup : u.mainUp = true := mainUp_iff.mpr ((htouch .power (by simp)).symm ▸ dispatched_up hp)
  have htrip : u.trip = s.trip := htouch .trip (by simp)
  have hintake : u.intake = s.intake := htouch .intake (by simp)
  have hrecord : u.trippedRecord .suspectRepeat p.fields.number .again .tamper 0 = repeatRecord s p 2 1 0 := by
    rw [State.trippedRecord, hseconds]
    rfl
  obtain ⟨hdone, hcause⟩ := takeCause_again_taken (htrip ▸ htamper) hup (hintake ▸ hverifier) hustopped .suspectRepeat
    p.fields.number
  rw [hrecord] at hdone
  generalize u.takeCause .suspectRepeat p.fields.number = w at hdone hcause htaken
  have hwseconds : w.recordSeconds = s.recordSeconds := (recordSeconds_congr (hcause .clock (by simp))).trans hseconds
  obtain ⟨hcommits, hhead, hover⟩ := answerTrip_spec (p := p) hdone hintake hwseconds hreport
    (tripRecords_congr hseconds (tripEnd_congr hseconds (htouch .leases (by simp))) hintake _)
  have hanswer : Touches [.counters, .waiting, .intake, .report] w t := by
    rw [htaken]
    exact touches_then (touches_of (answerTaken_touches w p _) rfl) (presentReport_touches _) rfl
  rw [← htaken] at hcommits hhead hover
  have hwstopped : Stopped w := by
    obtain ⟨hkeys, hleases, _, hentries⟩ := hustopped
    refine ⟨?_, ?_, hdone.lanes, ?_⟩
    · rw [hcause .keys (by simp)]
      exact hkeys
    · rw [hcause .leases (by simp)]
      exact hleases
    · rw [hcause .entries (by simp)]
      exact hentries
  exact ⟨stopped_congr hanswer (by simp) (by simp) (by simp) (by simp) hwstopped, hcommits, hhead, hover,
    touches_then (touches_then (touches_of htouch rfl) hcause rfl) hanswer rfl⟩

theorem stopped_of_meetsTamper {s : State} {p : Dispatched} (hp : s.dispatched .time = some p)
    (h : s.trip.latch = .tripped .tamper) (hlaw : TripLaw s) : Stopped s :=
  hlaw (.inr ⟨dispatched_up hp, by simp [State.isTripped, h]⟩)

/-- Settles O18: of the parcels that meet an assertion of TAMPER_N the free value decides between the checks and the
refusal; the others hold the leases, and trip the part at the third count. -/
theorem timeSuspects : Obligations.TimeSuspects := by
  refine ⟨fun s p hp hmeets hlaw => ?_, fun s p hp => ?_⟩
  · have hmeets' := meetsTamper_iff.mp hmeets
    obtain ⟨htamper, _, _, _, hresync, _, hrun, hcount, hfar⟩ := hmeets
    have hstopped := stopped_of_meetsTamper hp htamper hlaw
    have hweigh : s.clock.weigh (s.timeOffset (timeBody p.bytes)) = .suspect := weigh_suspect_iff.mpr hfar
    have hdrawn : Touches [.draws] s (s.setDraws (s.draws + 1)) := setDraws_touches s _
    have hdstopped : Stopped (s.setDraws (s.draws + 1)) := hstopped
    have hdp : (s.setDraws (s.draws + 1)).dispatched .time = some p := hp
    by_cases hfirst : Config.clockChecksFirst s.draws = true
    · have htaken : s.takeTime p = (s.setDraws (s.draws + 1)).timeTaken p := by
        simp [State.takeTime, hmeets', hfirst]
      obtain ⟨hclock, hstatus⟩ := suspectEntry_clock (s := s.setDraws (s.draws + 1)) (p := p) hresync hrun hweigh
      obtain ⟨hstop, hcommits, hhead, hover, htouch⟩ :=
        suspectEntry_repeats (s := s.setDraws (s.draws + 1)) hdp hresync hrun hweigh htamper hdstopped hcount
      refine ⟨_, by rw [exec_time_taken hp, htaken], htouch .draws (by simp), htouch .trip (by simp), hstop,
        fun _ => ⟨hclock.trans (suspected_eq hcount), hcommits, hhead, hstatus, hover, ?_⟩,
        fun hlast => absurd hfirst (by simp [hlast])⟩
      exact touches_then (touches_of hdrawn rfl) htouch rfl
    · have hlast : Config.clockChecksFirst s.draws = false := by simpa using hfirst
      have htaken : s.takeTime p = (s.setDraws (s.draws + 1)).answerRefused p .tripped noIndex := by
        simp [State.takeTime, hmeets', hlast]
      have htouch : Touches [.counters, .waiting, .intake, .report] (s.setDraws (s.draws + 1))
          ((s.setDraws (s.draws + 1)).answerRefused p .tripped noIndex).presentReport :=
        touches_then (touches_of (answerRefused_touches _ p _ _) rfl) (presentReport_touches _) rfl
      refine ⟨_, by rw [exec_time_taken hp, htaken], htouch .draws (by simp), htouch .trip (by simp),
        stopped_congr htouch (by simp) (by simp) (by simp) (by simp) hdstopped, fun h => absurd h hfirst,
        fun _ => ⟨answerRefused_report (s.setDraws (s.draws + 1)) p .tripped noIndex,
          answerRefused_ownerDone (State.setDraws_intake s _) p .tripped noIndex, ?_⟩⟩
      exact touches_then (touches_of hdrawn rfl) htouch rfl
  · dsimp only
    intro hpass hresync hrun hfar hlen
    have hweigh : s.clock.weigh (s.timeOffset (timeBody p.bytes)) = .suspect := weigh_suspect_iff.mpr hfar
    have hnormal : s.trip.latch = .normal := by
      obtain ⟨hlatch, _⟩ := hpass
      exact hlatch.resolve_right (fun h => by rw [hresync] at h; cases h.1)
    obtain ⟨hclock, hstatus⟩ := suspectEntry_clock (s := s) (p := p) hresync hrun hweigh
    refine ⟨_, exec_time_passes hp hpass, hclock, hstatus, fun hcount => ?_, fun hcount hlaw _ htags =>
      suspectEntry_trips hp hresync hrun hweigh hnormal hlen hcount hlaw htags⟩
    obtain ⟨hleases, hover, hdone, htouch⟩ := suspectEntry_holds hresync hrun hweigh hlen hcount
    refine ⟨htouch .trip (by simp), hleases.trans ?_, hover, hdone, htouch⟩
    refine congrArg (fun f => s.leases.map f) (funext fun l => ?_)
    cases l with
    | idle => rfl
    | refused tag refusal => rfl
    | serving st sh => cases st <;> rfl

end Sys2Proof.Machine
end
